-- ==== Sys2Proof/Word.lean ====
section
/-! DEFINITION. The word types of PWCORE's interface and registers. -/

namespace Sys2Proof

/-- A 32-bit command, payload or response word (20_memory R63, 30_encoding R80). The W-bit registers
`RAW`, `AVG`, `MIN` and `MAX` are held in cells of this width, W ≤ 32 (00_scope R5). -/
abbrev Word := BitVec 32

/-- A debouncer's history register, FW = 31 bits (10_state R28, 41_debouncer R140). -/
abbrev History := BitVec 31

/-- A mask of pads, bit i for channel i, in a cell of the largest NMAX, 16 bits (10_state R38). -/
abbrev Mask := BitVec 16

/-- A note number 0 to 127, or 255 for "no note" (10_state R39). -/
abbrev Note := BitVec 8

end Sys2Proof
end

