-- ==== Sys2Proof/Config.lean ====
section
/-! DEFINITION. What an implementation of PWCORE fixes (00_scope R5), the agents, the selector types,
and the values the spec leaves open, as constants without a body. -/

namespace Sys2Proof

/-- The two agents that issue commands (20_memory R64). -/
inductive Agent where
  | producer
  | consumer
deriving DecidableEq, Repr

/-- The 11 legal values of `MODE`, in the numbering 0 to 10 of 43_decoder R182. -/
inductive Mode where
  | major
  | naturalMinor
  | harmonicMinor
  | ascendingMelodicMinor
  | phrygianDominant
  | doubleHarmonic
  | lydian
  | mixolydian
  | dorian
  | phrygian
  | locrian
deriving DecidableEq, Repr

/-- The 4 values of `POLICY`, numbered 0 to 3 (10_state R35). -/
inductive Policy where
  | natural
  | lowBit
  | gray
  | strong
deriving DecidableEq, Repr

/-- The 2 values of `SFDELEG`, numbered 0 and 1 (10_state R36). -/
inductive Delegate where
  | lowBit
  | gray
deriving DecidableEq, Repr

/-- The two admissible values of `NAT_OCT` (43_decoder R195): which of the two register bits, alone,
raises by an octave; the other one lowers. -/
inductive NatOct where
  /-- Bit N−1 alone is +12 and bit N−2 alone −12: the default. -/
  | topRaises
  /-- Bit N−1 alone is −12 and bit N−2 alone +12. -/
  | topLowers
deriving DecidableEq, Repr

namespace Config

/-- The values after reset of the registers that 10_state R47 leaves unspecified (within the legal
range): free parameters of the launch state (70_reset_and_hazards R273). -/
structure Launch where
  raw : Vector Word 16
  thr : Vector (BitVec 8) 16
  nact : BitVec 5
  steps : BitVec 5
  exp : BitVec 4
  root : BitVec 7
  mode : Mode
  policy : Policy
  sfdeleg : Delegate
deriving DecidableEq, Repr

/-- The parameters of an implementation for which the spec has a reference or default value
(00_scope R5). An absent entry of `gray` is a nibble the table leaves out (43_decoder R192). -/
structure Params where
  nmax : Nat
  w : Nat
  dbRebase : Bool
  modeT : Vector (Vector Nat 7) 11
  gray : Vector (Option Nat) 16
  natOct : NatOct
  launch : Launch
deriving DecidableEq, Repr

/-- DESIGN CHOICE (log 3): the entries of `NAT_TABLE_H` (hole count H, hole pattern) that the spec does
not give; nothing is known of them (43_decoder R196). -/
opaque natTableOpen : Nat → Nat → Option Nat

/-- DESIGN CHOICE (log 4): the permutation `SF_PERM` on the bit positions 0 to 5; nothing is known of it
but that it is a bijection (43_decoder R199). -/
opaque sfPerm : Equiv.Perm (Fin 6)

/-- DESIGN CHOICE (log 5): whether the producer is served first when both agents present a command and the
schedule in the state does not say, as a function of the number of commands served so far; nothing is known
of it (20_memory R66, 60_exceptions R255). -/
opaque producerFirst : Nat → Bool

end Config

end Sys2Proof
end

