-- ==== Sys2Proof/Machine/Tables.lean ====
section
/-! DEFINITION. The tables and parameter values the spec prints as references or defaults, the derived
constants of a set of parameters, and the one lookup of the Natural policy's table. -/

namespace Sys2Proof.Machine

open Sys2Proof.Config

/-- The default mode templates `T`, one row per mode in the order of 43_decoder R182. PRESUMED by the
spec itself, from general knowledge (43_decoder R183; log 13). -/
def defaultModeT : Vector (Vector Nat 7) 11 := #v[
  #v[0, 2, 4, 5, 7, 9, 11],
  #v[0, 2, 3, 5, 7, 8, 10],
  #v[0, 2, 3, 5, 7, 8, 11],
  #v[0, 2, 3, 5, 7, 9, 11],
  #v[0, 1, 4, 5, 7, 8, 10],
  #v[0, 1, 4, 5, 7, 8, 11],
  #v[0, 2, 4, 6, 7, 9, 11],
  #v[0, 2, 4, 5, 7, 9, 10],
  #v[0, 2, 3, 5, 7, 9, 10],
  #v[0, 1, 3, 5, 7, 8, 10],
  #v[0, 1, 3, 5, 6, 8, 10]]

/-- The default `GRAY_TABLE`, the inverse of the reflected binary code (43_decoder R192; log 13). -/
def defaultGray : Vector (Option Nat) 16 :=
  #v[some 0, some 1, some 3, some 2, some 7, some 6, some 4, some 5,
    some 15, some 14, some 12, some 13, some 8, some 9, some 11, some 10]

/-- DESIGN CHOICE (log 2): the launch values of `State.reset`, the least legal value of each register that
10_state R47 leaves unspecified. -/
def referenceLaunch : Launch where
  raw := Vector.replicate 16 0#32
  thr := Vector.replicate 16 0#8
  nact := 1#5
  steps := 1#5
  exp := 0#4
  root := 0#7
  mode := .major
  policy := .natural
  sfdeleg := .lowBit

/-- The reference and default values of the parameters (00_scope R5; log 1). -/
def referenceParams : Params where
  nmax := 16
  w := 16
  dbRebase := true
  modeT := defaultModeT
  gray := defaultGray
  natOct := .topRaises
  launch := referenceLaunch

/-- `RAW_MAX` = 2^W − 1 (00_scope R5). -/
def rawMax (p : Params) : Nat := 2 ^ p.w - 1

/-- The 16 channel slots filled by a function of the channel id. -/
def slots {α : Type} (f : Fin 16 → α) : Vector α 16 :=
  #v[f 0, f 1, f 2, f 3, f 4, f 5, f 6, f 7, f 8, f 9, f 10, f 11, f 12, f 13, f 14, f 15]

/-- The 7 scale degrees filled by a function of the degree. -/
def degrees {α : Type} (f : Fin 7 → α) : Vector α 7 := #v[f 0, f 1, f 2, f 3, f 4, f 5, f 6]

/-- The number of a mode (43_decoder R182). -/
def modeNumber : Mode → Fin 11
  | .major => 0
  | .naturalMinor => 1
  | .harmonicMinor => 2
  | .ascendingMelodicMinor => 3
  | .phrygianDominant => 4
  | .doubleHarmonic => 5
  | .lydian => 6
  | .mixolydian => 7
  | .dorian => 8
  | .phrygian => 9
  | .locrian => 10

/-- The scale table for a root and a mode: `SCALE[d] = ROOT + T[MODE][d]` (43_decoder R181). -/
def scaleOf (p : Params) (root : BitVec 7) (mode : Mode) : Vector (BitVec 8) 7 :=
  degrees fun d : Fin 7 => BitVec.ofNat 8 (root.toNat + p.modeT[modeNumber mode][d])

/-- `NAT_TABLE_H`: the two entries that 43_decoder R193 fixes, and otherwise the uninterpreted table
(43_decoder R196; log 3). -/
def natTable (holes pattern : Nat) : Option Nat :=
  if holes = 4 ∧ pattern = 0b1111 then some 0
  else if holes = 4 ∧ pattern = 0b1110 then some 1
  else natTableOpen holes pattern

end Sys2Proof.Machine
end

