-- ==== Sys2Proof/Machine/State.lean ====
section
/-! DEFINITION. The state of PWCORE as plain data, its reasons to stop, and the state after reset. -/

namespace Sys2Proof.Machine

open Sys2Proof.Config

/-- The registers of one channel, PW's ChannelState (10_state R20 to R28). -/
structure Channel where
  /-- `RAW[i]`: the last raw sample as delivered (R21). -/
  raw : Word
  /-- `AVG[i]`: the running average (R22). -/
  avg : Word
  /-- `MIN[i]`: the running minimum of the average (R23). -/
  minv : Word
  /-- `MAX[i]`: the running maximum of the average (R24). -/
  maxv : Word
  /-- `NORM[i]`: the normalized value of the last poll (R25). -/
  norm : BitVec 8
  /-- `THR[i]`: the touch threshold (R26). -/
  thr : BitVec 8
  /-- `DBV[i]`: the debouncer's stable value, true for open (R27). -/
  dbv : Bool
  /-- `DBF[i]`: the debouncer's history (R28). -/
  dbf : History
deriving DecidableEq, Repr

/-- A response word and the agent it is returned to (30_encoding R96). -/
structure Response where
  agent : Agent
  word : Word
deriving DecidableEq, Repr

/-- The machine. The fields up to `lastnote` are the registers of 10_state R20; the others are the model's
own: the block's interface (log 5, 6, 7) and the implementation's parameters (log 1). -/
structure State where
  /-- The parameters of the implementation; no step writes them (10_state R48). -/
  params : Params
  /-- The per-channel registers; the slots at NMAX and above do not exist in the machine (log 10). -/
  chans : Vector Channel 16
  /-- `CNT` (R29). -/
  cnt : BitVec 8
  /-- `NACT` (R30). -/
  nact : BitVec 5
  /-- `STEPS` (R31). -/
  steps : BitVec 5
  /-- `EXP` (R32). -/
  exp : BitVec 4
  /-- `ROOT` (R33). -/
  root : BitVec 7
  /-- `MODE` (R34). -/
  mode : Mode
  /-- `POLICY` (R35). -/
  policy : Policy
  /-- `SFDELEG` (R36). -/
  sfdeleg : Delegate
  /-- `SCALE[0..6]` (R37). -/
  scale : Vector (BitVec 8) 7
  /-- `TOUCH` (R38). -/
  touch : Mask
  /-- `LASTNOTE` (R39). -/
  lastnote : Note
  /-- The RESET input, true while asserted (70_reset_and_hazards R270). -/
  resetPin : Bool
  /-- The words the producer presents that are not yet executed. -/
  producer : List Word
  /-- The words the consumer presents that are not yet executed. -/
  consumer : List Word
  /-- Which agent goes first at each of the coming commands, as far as the outside has settled it; the entry
  of a command for which only one agent is ready decides nothing (20_memory R66; log 5). -/
  schedule : List Agent
  /-- How many commands have been served. -/
  turn : Nat
  /-- The agent that issued the command being executed. -/
  issuer : Agent
  /-- The responses given, oldest first (30_encoding R96). -/
  responses : List Response
  /-- The note events emitted, oldest first (60_exceptions R254). -/
  notes : List Note
deriving DecidableEq, Repr

/-- PWCORE raises no exception and no operation can fail (60_exceptions R250): there is no fault. -/
inductive Fault where
deriving DecidableEq, Repr

/-- Why the model gives no meaning. -/
inductive Refusal where
  /-- Raised by an arm of `exec` for an instruction that has no meaning yet; safe. No arm raises it. -/
  | notModelled (mnemonic : String)
  /-- Raised by the step when the only words presented are part of a `SAMPLE` frame, and by the meaning of
  `SAMPLE` for a frame whose length is not NACT: that is no command and has no meaning
  (93_implementation_defined U4); safe (log 8). -/
  | brokenFrame
deriving DecidableEq, Repr

/-- A channel after reset (10_state R47), given the launch values of the registers R47 leaves open. -/
def Channel.launch (rawMax : Nat) (raw : Word) (thr : BitVec 8) : Channel where
  raw := raw
  avg := 0#32
  minv := BitVec.ofNat 32 rawMax
  maxv := 0#32
  norm := 0#8
  thr := thr
  dbv := false
  dbf := 0#31

/-- The machine after reset, for any parameters and launch values (10_state R47, 70_reset_and_hazards
R270 to R273); nothing is presented, nothing has been answered or emitted. -/
def State.launch (p : Params) : State where
  params := p
  chans := slots fun i : Fin 16 => Channel.launch (rawMax p) p.launch.raw[i] p.launch.thr[i]
  cnt := 0#8
  nact := p.launch.nact
  steps := p.launch.steps
  exp := p.launch.exp
  root := p.launch.root
  mode := p.launch.mode
  policy := p.launch.policy
  sfdeleg := p.launch.sfdeleg
  scale := scaleOf p p.launch.root p.launch.mode
  touch := 0#16
  lastnote := 255#8
  resetPin := false
  producer := []
  consumer := []
  schedule := []
  turn := 0
  issuer := .consumer
  responses := []
  notes := []

/-- The machine after reset, at the reference parameters and the launch values of log 2. -/
def State.reset : State := State.launch referenceParams

end Sys2Proof.Machine
end

