-- ==== Sys2Proof/Machine/Ops.lean ====
section
/-! DEFINITION. The named operations over the registers and the interface. There is no memory (20_memory
R60) and no exception, so there is no operation that takes an exception or returns from one (60_exceptions
R250, R256, R257); what stands in their place is `State.ignore`, the answer to an illegal command (R252). -/

namespace Sys2Proof.Machine

open Sys2Proof.Config

/-- The registers of channel i. -/
def State.chan (s : State) (i : Fin 16) : Channel := s.chans[i]

/-- Writes every channel's registers; the one operation through which per-channel registers change. -/
def State.mapChans (f : Fin 16 → Channel → Channel) (s : State) : State :=
  { s with chans := slots fun i => f i (s.chan i) }

/-- Channel i exists: i < NMAX (00_scope R5, 20_memory R61). -/
def State.implemented (s : State) (i : Fin 16) : Bool := decide (i.val < s.params.nmax)

/-- Channel i is active: i < NACT (10_state R30). -/
def State.active (s : State) (i : Fin 16) : Bool := decide (i.val < s.nact.toNat)

/-- `respond(w)`: returns a response word to the agent that issued the command (00_scope R10, 30_encoding
R96). -/
def State.respond (w : Word) (s : State) : State :=
  { s with responses := s.responses ++ [⟨s.issuer, w⟩] }

/-- `emit NOTE(n)`: delivers a note to the note sink (00_scope R10, 60_exceptions R254). -/
def State.emitNote (n : Note) (s : State) : State :=
  { s with notes := s.notes ++ [n] }

/-- An illegal command changes no register, emits nothing and responds 0 (30_encoding R89, 60_exceptions
R252). -/
def State.ignore (s : State) : State := s.respond 0#32

/-- A configuration write: with a legal operand the written state, else nothing, and the response 0 in
both cases (44_config_diag R220). -/
def State.commit (s : State) (legal : Bool) (written : State) : State :=
  if legal then written.respond 0#32 else s.ignore

/-- A diagnostic read: with a legal operand the register's value, else 0 (44_config_diag R229). -/
def State.answer (legal : Bool) (value : Word) (s : State) : State :=
  if legal then s.respond value else s.ignore

/-- `MIN <- RAW_MAX`, `MAX <- 0` of one channel (40_calibrator R111, R116). -/
def Channel.resetBounds (rawMax : Nat) (c : Channel) : Channel :=
  { c with minv := BitVec.ofNat 32 rawMax, maxv := 0#32 }

/-- The calibration reset, automatic or on demand: the bounds of every channel, active or not
(40_calibrator R111, R116; 70_reset_and_hazards R272). -/
def State.resetBounds (s : State) : State :=
  s.mapChans fun i c => if s.implemented i then c.resetBounds (rawMax s.params) else c

/-- Device reset: every register takes its reset value; the interface keeps what the outside holds
(70_reset_and_hazards R270; log 7). -/
def State.deviceReset (s : State) : State :=
  { State.launch s.params with
    resetPin := s.resetPin, producer := s.producer, consumer := s.consumer, schedule := s.schedule,
    turn := s.turn, issuer := s.issuer, responses := s.responses, notes := s.notes }

/-- The words an agent presents. -/
def State.words (s : State) : Agent → List Word
  | .producer => s.producer
  | .consumer => s.consumer

/-- The next command is served: agent `a` becomes its issuer and goes on with the words `rest`, and its
entry of the schedule is spent. -/
def State.take (a : Agent) (rest : List Word) (s : State) : State :=
  let served := { s with issuer := a, turn := s.turn + 1, schedule := s.schedule.tail }
  match a with
  | .producer => { served with producer := rest }
  | .consumer => { served with consumer := rest }

/-- INPUT, between steps: an agent presents further words (20_memory R70). -/
def State.present (a : Agent) (ws : List Word) (s : State) : State :=
  match a with
  | .producer => { s with producer := s.producer ++ ws }
  | .consumer => { s with consumer := s.consumer ++ ws }

/-- INPUT, between steps: which agent goes first at each of the coming commands. No rule restricts it:
either agent's next command may be executed at every step (20_memory R66, 60_exceptions R255; log 5). -/
def State.reschedule (l : List Agent) (s : State) : State := { s with schedule := l }

/-- INPUT, between steps: RESET is asserted, which resets every register at once (70_reset_and_hazards R270;
log 7). -/
def State.assertReset (s : State) : State := { s.deviceReset with resetPin := true }

/-- INPUT, between steps: RESET is released; if it was asserted, every register then holds its reset value,
whether or not a step was taken meanwhile (70_reset_and_hazards R270; log 7). -/
def State.releaseReset (s : State) : State :=
  if s.resetPin then { s.deviceReset with resetPin := false } else s

end Sys2Proof.Machine
end

