-- ==== Sys2Proof/Machine/Operands.lean ====
section
/-! DEFINITION. The operands of the commands: their legality tests (30_encoding R86 to R89), what their
values select, and the sample a payload word carries (R85). -/

namespace Sys2Proof.Machine

open Sys2Proof.Config

/-- `ch` is legal when `ch` < NMAX, active or not (30_encoding R88). -/
def legalChannel (p : Params) (ch : BitVec 4) : Bool := decide (ch.toNat < p.nmax)

/-- A legal channel count, 1 ≤ n ≤ NMAX (44_config_diag R221). -/
def legalCount (p : Params) (imm : BitVec 8) : Bool := decide (1 ≤ imm.toNat ∧ imm.toNat ≤ p.nmax)

/-- A legal debounce run length, 1 ≤ s ≤ 31 (44_config_diag R224). -/
def legalSteps (imm : BitVec 8) : Bool := decide (1 ≤ imm.toNat ∧ imm.toNat ≤ 31)

/-- A legal smoothing exponent, e ≤ 8 (44_config_diag R225). -/
def legalExp (imm : BitVec 8) : Bool := decide (imm.toNat ≤ 8)

/-- A legal root note, r ≤ 127 (44_config_diag R226). -/
def legalRoot (imm : BitVec 8) : Bool := decide (imm.toNat ≤ 127)

/-- A legal policy operand, p ≤ 7 (44_config_diag R228). -/
def legalPolicy (imm : BitVec 8) : Bool := decide (imm.toNat ≤ 7)

/-- The mode of a number, if it is one of the 11 (43_decoder R182, 44_config_diag R227). -/
def modeOfNumber : Nat → Option Mode
  | 0 => some .major
  | 1 => some .naturalMinor
  | 2 => some .harmonicMinor
  | 3 => some .ascendingMelodicMinor
  | 4 => some .phrygianDominant
  | 5 => some .doubleHarmonic
  | 6 => some .lydian
  | 7 => some .mixolydian
  | 8 => some .dorian
  | 9 => some .phrygian
  | 10 => some .locrian
  | _ => none

/-- The policy in `imm8[1:0]` (44_config_diag R228). -/
def policyOfOperand (imm : BitVec 8) : Policy :=
  match imm.getLsbD 1, imm.getLsbD 0 with
  | false, false => .natural
  | false, true => .lowBit
  | true, false => .gray
  | true, true => .strong

/-- The StrongFinger delegate in `imm8[2]` (44_config_diag R228). -/
def delegateOfOperand (imm : BitVec 8) : Delegate :=
  if imm.getLsbD 2 then .gray else .lowBit

/-- The register-array index that `ch` selects (20_memory R61). -/
def channelIndex (ch : BitVec 4) : Fin 16 := ch.toFin

/-- The raw sample of a payload word: its low W bits, the upper ones ignored (30_encoding R85). -/
def sampleOf (p : Params) (payload : Word) : Word := BitVec.ofNat 32 (payload.toNat % 2 ^ p.w)

end Sys2Proof.Machine
end

