-- ==== Sys2Proof/Machine/Calibrator.lean ====
section
/-! DEFINITION. The calibrator and normalizer: `SAMPLE`, `CALRST` and the function `NORM`
(40_calibrator). -/

namespace Sys2Proof.Machine

open Sys2Proof.Config

/-- A raw sample is a glitch when it is 0 or `RAW_MAX` (40_calibrator R113). -/
def isGlitch (rawMax : Nat) (r : Word) : Bool := decide (r.toNat = 0 ∨ r.toNat = rawMax)

/-- The value fed to the smoother: the running minimum for a glitch, else the sample (40_calibrator
R113). -/
def smootherInput (rawMax : Nat) (minv r : Word) : Nat :=
  if isGlitch rawMax r then minv.toNat else r.toNat

/-- `floor(((2^EXP − 1)·AVG + val) / 2^EXP)` (40_calibrator R114). -/
def smooth (e avg val : Nat) : Nat := ((2 ^ e - 1) * avg + val) / 2 ^ e

/-- Folds one raw sample into a channel (40_calibrator R112 to R115). -/
def Channel.fold (rawMax e : Nat) (r : Word) (c : Channel) : Channel :=
  let a := smooth e c.avg.toNat (smootherInput rawMax c.minv r)
  { c with
    raw := r
    avg := BitVec.ofNat 32 a
    minv := BitVec.ofNat 32 (Nat.min c.minv.toNat a)
    maxv := BitVec.ofNat 32 (Nat.max c.maxv.toNat a) }

/-- Counts a `SAMPLE`; when `CNT` wraps to 0, resets the bounds before the fold (40_calibrator R111). -/
def State.countSample (s : State) : State :=
  let counted := { s with cnt := s.cnt + 1#8 }
  if counted.cnt = 0#8 then counted.resetBounds else counted

/-- Folds a frame into the active channels, payload word i into channel i (30_encoding R85, 40_calibrator
R110). -/
def State.foldFrame (frame : List Word) (s : State) : State :=
  s.mapChans fun i c =>
    if s.active i then
      c.fold (rawMax s.params) s.exp.toNat (sampleOf s.params (frame.getD i.val 0#32))
    else c

/-- `NORM(a, lo, hi)` (40_calibrator R117): the range is an integer and may be negative. -/
def normalized (a lo hi : Nat) : Nat :=
  if (hi : Int) - (lo : Int) < 5 then 0
  else if a ≤ lo then 0
  else Nat.min 255 (255 * (a - lo) / (hi - lo))

/-- `SAMPLE` (40_calibrator R110). A frame is NACT payload words; anything else is no command
(93_implementation_defined U4). -/
def execSample (frame : List Word) (s : State) : Host.Outcome State Fault Refusal :=
  if frame.length = s.nact.toNat then .next ((s.countSample.foldFrame frame).respond 0#32)
  else .refused .brokenFrame

/-- `CALRST` (40_calibrator R116). -/
def execCalrst (s : State) : Host.Outcome State Fault Refusal :=
  .next (s.resetBounds.respond 0#32)

end Sys2Proof.Machine
end

