-- ==== Sys2Proof/Machine/Debouncer.lean ====
section
/-! DEFINITION. The debouncer's step `DBSTEP` (41_debouncer). -/

namespace Sys2Proof.Machine

/-- The history with the newest agreement bit `x XOR v XOR 1` shifted in (41_debouncer R141, R142). -/
def shiftHistory (v : Bool) (f : History) (x : Bool) : History :=
  (f <<< 1) ||| (BitVec.ofBool (x ^^ v ^^ true)).setWidth 31

/-- The low `steps` bits of the updated history are all zero: the last `steps` inputs disagreed
(41_debouncer R143). -/
def runComplete (f1 : History) (steps : Nat) : Bool := decide (f1.toNat % 2 ^ steps = 0)

/-- `DBSTEP(v, f, x, S)`; `rebase` is `DB_REBASE` (41_debouncer R141, R144, R149). -/
def debounceStep (rebase : Bool) (v : Bool) (f : History) (x : Bool) (steps : Nat) : Bool × History :=
  let f1 := shiftHistory v f x
  if runComplete f1 steps then (x, if rebase then ~~~f1 else f1) else (v, f1)

end Sys2Proof.Machine
end

