-- ==== Sys2Proof/Machine/Flags.lean ====
section
/-! DEFINITION. The boolean signals. PWCORE has no condition codes; its boolean status is `DBV`, `TOUCH`
and the `changed` bit of a `POLL` response (10_state R46). -/

namespace Sys2Proof.Machine

/-- The debouncer's input, 1 = open: `NORM[i]` ≤ `THR[i]` (42_aggregator R162, R163). -/
def padOpen (norm thr : BitVec 8) : Bool := decide (norm.toNat ≤ thr.toNat)

/-- The mask whose bit i is `f i` (42_aggregator R165). -/
def maskOf (f : Fin 16 → Bool) : Mask :=
  (List.finRange 16).foldl (fun m i => if f i then m ||| BitVec.twoPow 16 i.val else m) 0#16

/-- `changed`: the fresh mask differs from the last reported one (42_aggregator R166). -/
def maskChanged (fresh reported : Mask) : Bool := decide (fresh ≠ reported)

/-- The `POLL` response: changed in bit 31, the note in 23:16, the mask in 15:0 (30_encoding R97,
42_aggregator R168). -/
def pollResponse (changed : Bool) (note : Note) (touch : Mask) : Word :=
  BitVec.ofBool changed ++ 0#7 ++ note ++ touch

end Sys2Proof.Machine
end

