-- ==== Sys2Proof/Machine/Decoder.lean ====
section
/-! DEFINITION. The fingering decoder: `DECODE` and its four policies (43_decoder). The tables are
arguments of the policies; `State.decodeNote` supplies the machine's. -/

namespace Sys2Proof.Machine

open Sys2Proof.Config

/-- `NO_NOTE`, the sentinel 255 (00_scope R5). -/
def noNote : Note := 255#8

/-- `FOLD(idx, o)`: 12 semitones for every 7 degrees (43_decoder R187). -/
def foldDegree (idx : Nat) (o : Int) : Fin 7 × Int := (Fin.ofNat 7 idx, o + 12 * ((idx / 7 : Nat) : Int))

/-- `FINISH(idx, o, acc)`: the note, or 255 if the sum is outside 0 to 127 (43_decoder R186). -/
def finishNote (scale : Vector (BitVec 8) 7) (idx : Nat) (o acc : Int) : Note :=
  let degree := foldDegree idx o
  let n : Int := (scale[degree.1].toNat : Int) + degree.2 + acc
  if 0 ≤ n ∧ n ≤ 127 then BitVec.ofNat 8 n.toNat else noNote

/-- The accidental of bits 4 (clear: −1) and 5 (clear: +1) (43_decoder R188, R189). -/
def accidental (m : Mask) : Int :=
  (if m.getLsbD 4 then 0 else -1) + (if m.getLsbD 5 then 0 else 1)

/-- `LOWBIT(m)` (43_decoder R188). -/
def lowBitNote (scale : Vector (BitVec 8) 7) (m : Mask) : Note :=
  finishNote scale (m.extractLsb' 0 3).toNat (if m.getLsbD 3 then 12 else 0) (accidental m)

/-- `GRAY(m)`; a nibble the table leaves out has no note (43_decoder R191, R192). -/
def grayNote (gray : Vector (Option Nat) 16) (scale : Vector (BitVec 8) 7) (m : Mask) : Note :=
  match gray[(m.extractLsb' 0 4).toFin] with
  | some idx => finishNote scale idx 0 (accidental m)
  | none => noNote

/-- The octave offset of the register bits N−1 and N−2, or none when both are clear (mute)
(43_decoder R193, R195). -/
def registerOctave (oct : NatOct) (top next : Bool) : Option Int :=
  match top, next, oct with
  | true, true, _ => some 0
  | false, false, _ => none
  | true, false, .topRaises => some 12
  | true, false, .topLowers => some (-12)
  | false, true, .topRaises => some (-12)
  | false, true, .topLowers => some 12

/-- `NATURAL(m, N)`; `table` is `NAT_TABLE_H` (43_decoder R193 to R196). -/
def naturalNote (table : Nat → Nat → Option Nat) (oct : NatOct) (scale : Vector (BitVec 8) 7)
    (n : Nat) (m : Mask) : Note :=
  if n < 3 then noNote
  else
    match registerOctave oct (m.getLsbD (n - 1)) (m.getLsbD (n - 2)) with
    | none => noNote
    | some o =>
      match table (n - 2) (m.toNat % 2 ^ (n - 2)) with
      | none => noNote
      | some e => finishNote scale e o 0

/-- The 6-bit mask whose logical bit j is physical bit `SF_PERM[j]` (43_decoder R198). -/
def permuteMask (perm : Fin 6 → Fin 6) (m : Mask) : Mask :=
  maskOf fun j => if h : j.val < 6 then m.getLsbD (perm ⟨j.val, h⟩).val else false

/-- `STRONG(m)` (43_decoder R198). -/
def strongNote (perm : Fin 6 → Fin 6) (deleg : Delegate) (gray : Vector (Option Nat) 16)
    (scale : Vector (BitVec 8) 7) (m : Mask) : Note :=
  match deleg with
  | .lowBit => lowBitNote scale (permuteMask perm m)
  | .gray => grayNote gray scale (permuteMask perm m)

/-- `DECODE(m)` (43_decoder R180). -/
def State.decodeNote (s : State) (m : Mask) : Note :=
  match s.policy with
  | .natural => naturalNote natTable s.params.natOct s.scale s.nact.toNat m
  | .lowBit => lowBitNote s.scale m
  | .gray => grayNote s.params.gray s.scale m
  | .strong => strongNote sfPerm s.sfdeleg s.params.gray s.scale m

end Sys2Proof.Machine
end

