-- ==== Sys2Proof/Machine/Aggregator.lean ====
section
/-! DEFINITION. The pad aggregator and `POLL` (42_aggregator). -/

namespace Sys2Proof.Machine

/-- Normalizes, compares and debounces one channel (42_aggregator R161, R162, R164). -/
def Channel.poll (rebase : Bool) (steps : Nat) (c : Channel) : Channel :=
  let n := BitVec.ofNat 8 (normalized c.avg.toNat c.minv.toNat c.maxv.toNat)
  let d := debounceStep rebase c.dbv c.dbf (padOpen n c.thr) steps
  { c with norm := n, dbv := d.1, dbf := d.2 }

/-- Polls the active channels, each exactly once (42_aggregator R164). -/
def State.pollChannels (s : State) : State :=
  s.mapChans fun i c => if s.active i then c.poll s.params.dbRebase s.steps.toNat else c

/-- The fresh mask: `DBV[i]` for i < NACT, else 0 (42_aggregator R165). -/
def State.freshMask (s : State) : Mask := maskOf fun i => s.active i && (s.chan i).dbv

/-- A change of the mask: latch it, decode, cache the note and emit it (42_aggregator R166, R167;
43_decoder R201). -/
def State.latchMask (t : Mask) (s : State) : State :=
  let n := s.decodeNote t
  { s with touch := t, lastnote := n }.emitNote n

/-- `POLL` (42_aggregator R160). -/
def execPoll (s : State) : Host.Outcome State Fault Refusal :=
  let polled := s.pollChannels
  let t := polled.freshMask
  let changed := maskChanged t s.touch
  let latched := if changed then polled.latchMask t else polled
  .next (latched.respond (pollResponse changed latched.lastnote latched.touch))

end Sys2Proof.Machine
end

