-- ==== Sys2Proof/Machine/ConfigWrites.lean ====
section
/-! DEFINITION. The configuration writes (44_config_diag R220 to R228). -/

namespace Sys2Proof.Machine

/-- `SETN n` (44_config_diag R221). -/
def execSetn (imm : BitVec 8) (s : State) : Host.Outcome State Fault Refusal :=
  .next (s.commit (legalCount s.params imm) { s with nact := imm.setWidth 5 })

/-- `SETTHR ch, v` (44_config_diag R222). -/
def execSetthr (ch : BitVec 4) (imm : BitVec 8) (s : State) : Host.Outcome State Fault Refusal :=
  .next (s.commit (legalChannel s.params ch)
    (s.mapChans fun i c => if i = channelIndex ch then { c with thr := imm } else c))

/-- `SETTHRALL v` (44_config_diag R223). -/
def execSetthrall (imm : BitVec 8) (s : State) : Host.Outcome State Fault Refusal :=
  .next (s.commit true (s.mapChans fun i c => if s.implemented i then { c with thr := imm } else c))

/-- `SETSTEPS s` (44_config_diag R224). -/
def execSetsteps (imm : BitVec 8) (s : State) : Host.Outcome State Fault Refusal :=
  .next (s.commit (legalSteps imm) { s with steps := imm.setWidth 5 })

/-- `SETEXP e` (44_config_diag R225). -/
def execSetexp (imm : BitVec 8) (s : State) : Host.Outcome State Fault Refusal :=
  .next (s.commit (legalExp imm) { s with exp := imm.setWidth 4 })

/-- `SETROOT r`: recomputes the scale (44_config_diag R226, 43_decoder R184). -/
def execSetroot (imm : BitVec 8) (s : State) : Host.Outcome State Fault Refusal :=
  .next (s.commit (legalRoot imm)
    { s with root := imm.setWidth 7, scale := scaleOf s.params (imm.setWidth 7) s.mode })

/-- `SETMODE m`: recomputes the scale (44_config_diag R227, 43_decoder R184). -/
def execSetmode (imm : BitVec 8) (s : State) : Host.Outcome State Fault Refusal :=
  match modeOfNumber imm.toNat with
  | some m => .next (s.commit true { s with mode := m, scale := scaleOf s.params s.root m })
  | none => .next (s.commit false s)

/-- `SETPOLICY p` (44_config_diag R228). -/
def execSetpolicy (imm : BitVec 8) (s : State) : Host.Outcome State Fault Refusal :=
  .next (s.commit (legalPolicy imm)
    { s with policy := policyOfOperand imm, sfdeleg := delegateOfOperand imm })

end Sys2Proof.Machine
end

