-- ==== Sys2Proof/Machine/Diagnostics.lean ====
section
/-! DEFINITION. The diagnostic reads (44_config_diag R229 to R235, 30_encoding R98). -/

namespace Sys2Proof.Machine

/-- `GETAVG ch` (44_config_diag R230). -/
def execGetavg (ch : BitVec 4) (s : State) : Host.Outcome State Fault Refusal :=
  .next (s.answer (legalChannel s.params ch) (s.chan (channelIndex ch)).avg)

/-- `GETMIN ch` (44_config_diag R231). -/
def execGetmin (ch : BitVec 4) (s : State) : Host.Outcome State Fault Refusal :=
  .next (s.answer (legalChannel s.params ch) (s.chan (channelIndex ch)).minv)

/-- `GETMAX ch` (44_config_diag R232). -/
def execGetmax (ch : BitVec 4) (s : State) : Host.Outcome State Fault Refusal :=
  .next (s.answer (legalChannel s.params ch) (s.chan (channelIndex ch)).maxv)

/-- `GETNORM ch` (44_config_diag R233). -/
def execGetnorm (ch : BitVec 4) (s : State) : Host.Outcome State Fault Refusal :=
  .next (s.answer (legalChannel s.params ch) ((s.chan (channelIndex ch)).norm.setWidth 32))

/-- `GETTOUCH` (44_config_diag R234). -/
def execGettouch (s : State) : Host.Outcome State Fault Refusal :=
  .next (s.answer true (s.touch.setWidth 32))

/-- `GETNOTE` (44_config_diag R235). -/
def execGetnote (s : State) : Host.Outcome State Fault Refusal :=
  .next (s.answer true (s.lastnote.setWidth 32))

end Sys2Proof.Machine
end

