-- ==== Sys2Proof/Syntax.lean ====
section
/-! DEFINITION. The commands of PWCORE: one constructor for each row of the opcode map (30_encoding R86). -/

namespace Sys2Proof

/-- A command. Operands are as encoded: `imm` is the unsigned 8-bit immediate (30_encoding R87), `ch` the
4-bit channel index (R88), and `frame` the payload words of a `SAMPLE`, channel 0 first (R85). -/
inductive Instr where
  | sample (frame : List Word)
  | calrst
  | poll
  | setn (imm : BitVec 8)
  | setthr (ch : BitVec 4) (imm : BitVec 8)
  | setthrall (imm : BitVec 8)
  | setsteps (imm : BitVec 8)
  | setexp (imm : BitVec 8)
  | setroot (imm : BitVec 8)
  | setmode (imm : BitVec 8)
  | setpolicy (imm : BitVec 8)
  | getavg (ch : BitVec 4)
  | getmin (ch : BitVec 4)
  | getmax (ch : BitVec 4)
  | getnorm (ch : BitVec 4)
  | gettouch
  | getnote
deriving DecidableEq, Repr

/-- The command's mnemonic (30_encoding R86). -/
def Instr.mnemonic : Instr → String
  | .sample _ => "SAMPLE"
  | .calrst => "CALRST"
  | .poll => "POLL"
  | .setn _ => "SETN"
  | .setthr _ _ => "SETTHR"
  | .setthrall _ => "SETTHRALL"
  | .setsteps _ => "SETSTEPS"
  | .setexp _ => "SETEXP"
  | .setroot _ => "SETROOT"
  | .setmode _ => "SETMODE"
  | .setpolicy _ => "SETPOLICY"
  | .getavg _ => "GETAVG"
  | .getmin _ => "GETMIN"
  | .getmax _ => "GETMAX"
  | .getnorm _ => "GETNORM"
  | .gettouch => "GETTOUCH"
  | .getnote => "GETNOTE"

/-- The command's operands in the order of 30_encoding R92. -/
def Instr.operands : Instr → List Nat
  | .sample frame => frame.map BitVec.toNat
  | .setthr ch imm => [ch.toNat, imm.toNat]
  | .setn imm | .setthrall imm | .setsteps imm | .setexp imm => [imm.toNat]
  | .setroot imm | .setmode imm | .setpolicy imm => [imm.toNat]
  | .getavg ch | .getmin ch | .getmax ch | .getnorm ch => [ch.toNat]
  | .calrst | .poll | .gettouch | .getnote => []

/-- The command in assembler syntax: the mnemonic and comma-separated decimal operands (30_encoding
R92). -/
def Instr.assembly (i : Instr) : String :=
  match i.operands with
  | [] => i.mnemonic
  | ops => i.mnemonic ++ " " ++ String.intercalate ", " (ops.map toString)

/-- The symbolic operands of `SETPOLICY` (30_encoding R93). -/
inductive PolicyOperand where
  | natural
  | lowBit
  | gray
  | strongLowBit
  | strongGray
deriving DecidableEq, Repr

/-- The immediate that a symbolic operand of `SETPOLICY` stands for (30_encoding R93). -/
def PolicyOperand.imm : PolicyOperand → BitVec 8
  | .natural => 0#8
  | .lowBit => 1#8
  | .gray => 2#8
  | .strongLowBit => 3#8
  | .strongGray => 7#8

end Sys2Proof
end

