-- ==== Sys2Proof/Machine/Dispatch.lean ====
section
/-! DEFINITION. The meaning of every command, one arm each. -/

namespace Sys2Proof.Machine

def exec (i : Instr) (s : State) : Host.Outcome State Fault Refusal :=
  match i with
  | .sample frame => Sys2Proof.Machine.execSample frame s
  | .calrst => Sys2Proof.Machine.execCalrst s
  | .poll => Sys2Proof.Machine.execPoll s
  | .setn imm => Sys2Proof.Machine.execSetn imm s
  | .setthr ch imm => Sys2Proof.Machine.execSetthr ch imm s
  | .setthrall imm => Sys2Proof.Machine.execSetthrall imm s
  | .setsteps imm => Sys2Proof.Machine.execSetsteps imm s
  | .setexp imm => Sys2Proof.Machine.execSetexp imm s
  | .setroot imm => Sys2Proof.Machine.execSetroot imm s
  | .setmode imm => Sys2Proof.Machine.execSetmode imm s
  | .setpolicy imm => Sys2Proof.Machine.execSetpolicy imm s
  | .getavg ch => Sys2Proof.Machine.execGetavg ch s
  | .getmin ch => Sys2Proof.Machine.execGetmin ch s
  | .getmax ch => Sys2Proof.Machine.execGetmax ch s
  | .getnorm ch => Sys2Proof.Machine.execGetnorm ch s
  | .gettouch => Sys2Proof.Machine.execGettouch s
  | .getnote => Sys2Proof.Machine.execGetnote s

end Sys2Proof.Machine
end

