-- ==== Sys2Proof/Decode.lean ====
section
/-! DEFINITION. The decoder of an agent's stream of words and the encoder (30_encoding R80 to R91). -/

namespace Sys2Proof

/-- Why a first word is illegal whatever its operands (30_encoding R89). -/
inductive IllegalWord where
  /-- Bits 31:24 are none of the 17 assigned values. -/
  | unassignedOp (op : BitVec 8)
  /-- A must-be-zero field is not zero. -/
  | reservedBits (op : BitVec 8)
deriving DecidableEq, Repr

/-- What a first word says. -/
inductive FirstWord where
  /-- The header of a `SAMPLE` frame. -/
  | sampleHeader
  /-- A whole command of one word. -/
  | single (i : Instr)
  /-- No command. -/
  | illegal (why : IllegalWord)
deriving DecidableEq, Repr

/-- What the head of an agent's stream of words says; `rest` is the stream after the command. -/
inductive Decoded where
  /-- The agent presents nothing. -/
  | noWords
  /-- A `SAMPLE` header with fewer than NACT payload words behind it: not a command
  (93_implementation_defined U4). -/
  | truncatedFrame
  | instr (i : Instr) (rest : List Word)
  | illegal (why : IllegalWord) (rest : List Word)
deriving DecidableEq, Repr

/-- The opcode, bits 31:24 (30_encoding R80). -/
def opField (w : Word) : BitVec 8 := w.extractLsb' 24 8

/-- The channel operand, bits 19:16 (30_encoding R82, R84). -/
def chField (w : Word) : BitVec 4 := w.extractLsb' 16 4

/-- The immediate operand, bits 7:0 (30_encoding R83, R84). -/
def immField (w : Word) : BitVec 8 := w.extractLsb' 0 8

/-- Format Z, and the header of format S: bits 23:0 must be 0 (30_encoding R81, R85). -/
def decodeZ (w : Word) (is : FirstWord) : FirstWord :=
  if w.extractLsb' 0 24 = 0#24 then is else .illegal (.reservedBits (opField w))

/-- Format C: bits 23:20 and 15:0 must be 0 (30_encoding R82). -/
def decodeC (w : Word) (is : BitVec 4 → Instr) : FirstWord :=
  if w.extractLsb' 20 4 = 0#4 ∧ w.extractLsb' 0 16 = 0#16 then .single (is (chField w))
  else .illegal (.reservedBits (opField w))

/-- Format I: bits 23:8 must be 0 (30_encoding R83). -/
def decodeI (w : Word) (is : BitVec 8 → Instr) : FirstWord :=
  if w.extractLsb' 8 16 = 0#16 then .single (is (immField w))
  else .illegal (.reservedBits (opField w))

/-- Format CI: bits 23:20 and 15:8 must be 0 (30_encoding R84). -/
def decodeCI (w : Word) (is : BitVec 4 → BitVec 8 → Instr) : FirstWord :=
  if w.extractLsb' 20 4 = 0#4 ∧ w.extractLsb' 8 8 = 0#8 then .single (is (chField w) (immField w))
  else .illegal (.reservedBits (opField w))

/-- The opcode map (30_encoding R86). A word of a row is that row's operation whatever its operand; an
operand that fails the row's legality test is the meaning's affair (log 9). -/
def decodeFirst (w : Word) : FirstWord :=
  match (opField w).toNat with
  | 0x01 => decodeZ w .sampleHeader
  | 0x02 => decodeZ w (.single .calrst)
  | 0x03 => decodeZ w (.single .poll)
  | 0x10 => decodeI w .setn
  | 0x11 => decodeCI w .setthr
  | 0x12 => decodeI w .setthrall
  | 0x13 => decodeI w .setsteps
  | 0x14 => decodeI w .setexp
  | 0x15 => decodeI w .setroot
  | 0x16 => decodeI w .setmode
  | 0x17 => decodeI w .setpolicy
  | 0x20 => decodeC w .getavg
  | 0x21 => decodeC w .getmin
  | 0x22 => decodeC w .getmax
  | 0x23 => decodeC w .getnorm
  | 0x24 => decodeZ w (.single .gettouch)
  | 0x25 => decodeZ w (.single .getnote)
  | _ => .illegal (.unassignedOp (opField w))

/-- Cuts the next command off an agent's stream of words: one word, but for a `SAMPLE` header, which takes
the `nact` words behind it, whatever they hold (30_encoding R85, R90). -/
def decode (nact : Nat) : List Word → Decoded
  | [] => .noWords
  | w :: rest =>
    match decodeFirst w with
    | .illegal why => .illegal why rest
    | .single i => .instr i rest
    | .sampleHeader =>
      if rest.length < nact then .truncatedFrame
      else .instr (.sample (rest.take nact)) (rest.drop nact)

/-- A word of format Z (30_encoding R81). -/
def encodeZ (op : BitVec 8) : Word := op ++ 0#24

/-- A word of format C (30_encoding R82). -/
def encodeC (op : BitVec 8) (ch : BitVec 4) : Word := op ++ 0#4 ++ ch ++ 0#16

/-- A word of format I (30_encoding R83). -/
def encodeI (op imm : BitVec 8) : Word := op ++ 0#16 ++ imm

/-- A word of format CI (30_encoding R84). -/
def encodeCI (op : BitVec 8) (ch : BitVec 4) (imm : BitVec 8) : Word :=
  op ++ 0#4 ++ ch ++ 0#8 ++ imm

/-- The words of a command (30_encoding R85, R86). -/
def encode : Instr → List Word
  | .sample frame => encodeZ 0x01#8 :: frame
  | .calrst => [encodeZ 0x02#8]
  | .poll => [encodeZ 0x03#8]
  | .setn imm => [encodeI 0x10#8 imm]
  | .setthr ch imm => [encodeCI 0x11#8 ch imm]
  | .setthrall imm => [encodeI 0x12#8 imm]
  | .setsteps imm => [encodeI 0x13#8 imm]
  | .setexp imm => [encodeI 0x14#8 imm]
  | .setroot imm => [encodeI 0x15#8 imm]
  | .setmode imm => [encodeI 0x16#8 imm]
  | .setpolicy imm => [encodeI 0x17#8 imm]
  | .getavg ch => [encodeC 0x20#8 ch]
  | .getmin ch => [encodeC 0x21#8 ch]
  | .getmax ch => [encodeC 0x22#8 ch]
  | .getnorm ch => [encodeC 0x23#8 ch]
  | .gettouch => [encodeZ 0x24#8]
  | .getnote => [encodeZ 0x25#8]

/-- The words of the instruction whose bits are the low `nbits` of `w`, the first word in bits 31:0, and
zero above, up to the longest command (1 + 16 words). -/
def tableWords (nbits w : Nat) : List Word :=
  (List.range 17).map fun k => BitVec.ofNat 32 ((w % 2 ^ nbits) >>> (32 * k))

/-- The command the decoder reads from an instruction of the opcode table, at the NACT of `State.reset`
(log 12). -/
def decodeTableWord (nbits w : Nat) : Option Instr :=
  match decode Machine.referenceLaunch.nact.toNat (tableWords nbits w) with
  | .instr i _ => some i
  | .illegal _ _ => none
  | .noWords => none
  | .truncatedFrame => none

end Sys2Proof
end

