-- ==== Sys2Proof/Machine/Fetch.lean ====
section
/-! DEFINITION. Which agent's command is executed next, and cutting it off that agent's words (20_memory
R66, 30_encoding R90, 60_exceptions R255). -/

namespace Sys2Proof.Machine

open Sys2Proof.Config

/-- What the machine finds to do. -/
inductive Fetched where
  /-- No agent presents anything (10_state R45). -/
  | idle
  /-- The only words presented are part of a `SAMPLE` frame (93_implementation_defined U4). -/
  | truncated
  /-- A command, and the state in which it is executed. -/
  | command (i : Instr) (s : State)
  /-- An illegal first word, and the state in which it is answered. -/
  | illegal (why : IllegalWord) (s : State)
deriving DecidableEq, Repr

/-- What the head of an agent's words says, with NACT as it is now (30_encoding R85). -/
def State.decoded (s : State) (a : Agent) : Decoded := decode s.nact.toNat (s.words a)

/-- An agent is ready when its words begin with a whole command or an illegal word. -/
def State.ready (s : State) (a : Agent) : Bool :=
  match s.decoded a with
  | .instr _ _ => true
  | .illegal _ _ => true
  | .noWords => false
  | .truncatedFrame => false

/-- The agent served next, when both are ready: the one the schedule names, and where it names none the open
choice (20_memory R66; log 5). -/
def State.preferred (s : State) : Agent :=
  match s.schedule with
  | a :: _ => a
  | [] => if producerFirst s.turn then .producer else .consumer

/-- The agent whose command is executed next. -/
def State.selected (s : State) : Option Agent :=
  match s.ready .producer, s.ready .consumer with
  | true, true => some s.preferred
  | true, false => some .producer
  | false, true => some .consumer
  | false, false => none

/-- Fetches the next command. -/
def State.fetch (s : State) : Fetched :=
  match s.selected with
  | none => if s.producer.isEmpty && s.consumer.isEmpty then .idle else .truncated
  | some a =>
    match s.decoded a with
    | .instr i rest => .command i (s.take a rest)
    | .illegal why rest => .illegal why (s.take a rest)
    | .noWords => .idle
    | .truncatedFrame => .truncated

end Sys2Proof.Machine
end

