-- ==== Sys2Proof/Machine/Step.lean ====
section
/-! DEFINITION. One step of the machine, and the placing of an instruction where the step fetches. -/

namespace Sys2Proof.Machine

/-- One step: while RESET is asserted no command is accepted and the registers hold their reset values
(70_reset_and_hazards R270); with nothing presented the machine is idle (10_state R45); an illegal word is
ignored (30_encoding R89); else one command is executed, atomically (20_memory R65). -/
def step (s : State) : Host.Outcome State Fault Refusal :=
  if s.resetPin then .next s.deviceReset
  else
    match s.fetch with
    | .idle => .next s
    | .truncated => .refused .brokenFrame
    | .command i t => exec i t
    | .illegal _ t => .next t.ignore

/-- The state with an instruction presented by the consumer as the only command, and RESET released: what
an agent outside does to have the command executed (log 12). -/
def State.withFetchWord (s : State) (nbits w : Nat) : State :=
  { s.releaseReset with producer := [], consumer := tableWords nbits w }

end Sys2Proof.Machine
end

