-- ==== Sys2Proof/Machine/Interleaving.lean ====
section
/-! DEFINITION. The step relation: a step under any schedule of the two agents (20_memory R66). -/

namespace Sys2Proof.Machine

/-- `t` is a next state of `s` for some schedule of the two agents. It admits either agent's next command at
every step (20_memory R66, 60_exceptions R255, 93_implementation_defined U12); `step` is this relation at the
schedule that the state holds. -/
def CanStep (s t : State) : Prop := ∃ l : List Agent, step (s.reschedule l) = .next t

end Sys2Proof.Machine
end

