-- ==== Sys2Proof/WellFormed.lean ====
section
/-! DEFINITION. Which commands are legal: the operand column of the opcode map (30_encoding R86), and the
frame length of `SAMPLE` (R85). The meanings test legality by their own operand checks
(Machine/Operands.lean); this is the check on syntax. -/

namespace Sys2Proof

/-- A command whose operands pass its row's legality test, for `nmax` channels of which `nact` are active
(30_encoding R86 to R89). -/
def wellFormed (nmax nact : Nat) : Instr → Bool
  | .sample frame => decide (frame.length = nact)
  | .calrst => true
  | .poll => true
  | .setn imm => decide (1 ≤ imm.toNat ∧ imm.toNat ≤ nmax)
  | .setthr ch _ => decide (ch.toNat < nmax)
  | .setthrall _ => true
  | .setsteps imm => decide (1 ≤ imm.toNat ∧ imm.toNat ≤ 31)
  | .setexp imm => decide (imm.toNat ≤ 8)
  | .setroot imm => decide (imm.toNat ≤ 127)
  | .setmode imm => decide (imm.toNat ≤ 10)
  | .setpolicy imm => decide (imm.toNat ≤ 7)
  | .getavg ch => decide (ch.toNat < nmax)
  | .getmin ch => decide (ch.toNat < nmax)
  | .getmax ch => decide (ch.toNat < nmax)
  | .getnorm ch => decide (ch.toNat < nmax)
  | .gettouch => true
  | .getnote => true

end Sys2Proof
end

