-- ==== Sys2Proof/Safety.lean ====
section
/-! DEFINITION. The terms the claims are stated in: admissible parameters, the invariant of the machine's
state, and vocabulary for histories, events and the opcode map. -/

namespace Sys2Proof.Machine

open Sys2Proof.Config

/-- Parameters and launch values within the bounds of 00_scope R5 and 10_state R47. -/
structure Admissible (p : Params) : Prop where
  /-- 1 ≤ NMAX ≤ 16 (00_scope R5). -/
  nmax : 1 ≤ p.nmax ∧ p.nmax ≤ 16
  /-- 1 ≤ W ≤ 32 (00_scope R5). -/
  width : 1 ≤ p.w ∧ p.w ≤ 32
  /-- Degree 0 is the root (43_decoder R181). -/
  modeRoot : ∀ m : Fin 11, p.modeT[m][0] = 0
  /-- A template stays under an octave (43_decoder R181). -/
  modeSpan : ∀ m : Fin 11, ∀ d : Fin 7, p.modeT[m][d] ≤ 11
  /-- Degree 1 of major, the one entry the source confirms (43_decoder R183). -/
  modeMajor : p.modeT[0][1] = 2
  /-- The two entries of `GRAY_TABLE` the source fixes (43_decoder R192). -/
  grayFixed : p.gray[0] = some 0 ∧ p.gray[1] = some 1
  /-- The entries of `GRAY_TABLE` are 0 to 15 (43_decoder R191). -/
  grayBound : ∀ g : Fin 16, ∀ n, p.gray[g] = some n → n ≤ 15
  /-- `RAW` is a W-bit value (10_state R47). -/
  launchRaw : ∀ i : Fin 16, (p.launch.raw[i]).toNat ≤ rawMax p
  /-- 1 ≤ NACT ≤ NMAX (10_state R47). -/
  launchNact : 1 ≤ p.launch.nact.toNat ∧ p.launch.nact.toNat ≤ p.nmax
  /-- 1 ≤ STEPS (10_state R47). -/
  launchSteps : 1 ≤ p.launch.steps.toNat
  /-- EXP ≤ 8 (10_state R47). -/
  launchExp : p.launch.exp.toNat ≤ 8

/-- A channel's W-bit registers are W-bit values (10_state R43), and its bounds either are as a reset leaves
them or enclose the average (R42). -/
structure ChannelInv (rawMax : Nat) (c : Channel) : Prop where
  raw : c.raw.toNat ≤ rawMax
  avg : c.avg.toNat ≤ rawMax
  minv : c.minv.toNat ≤ rawMax
  maxv : c.maxv.toNat ≤ rawMax
  bounds : (c.minv.toNat = rawMax ∧ c.maxv.toNat = 0) ∨
    (c.minv.toNat ≤ c.avg.toNat ∧ c.avg.toNat ≤ c.maxv.toNat)

/-- The invariant of the machine's state. -/
structure StateInv (s : State) : Prop where
  params : Admissible s.params
  chans : ∀ i : Fin 16, ChannelInv (rawMax s.params) (s.chan i)
  /-- 1 ≤ NACT ≤ NMAX (10_state R30). -/
  nact : 1 ≤ s.nact.toNat ∧ s.nact.toNat ≤ s.params.nmax
  /-- 1 ≤ STEPS (10_state R31). -/
  steps : 1 ≤ s.steps.toNat
  /-- EXP ≤ 8 (10_state R32). -/
  exp : s.exp.toNat ≤ 8
  /-- The scale is a function of root and mode (10_state R44). -/
  scale : s.scale = scaleOf s.params s.root s.mode
  /-- No mask bit at or above NMAX (10_state R38). -/
  touch : ∀ i : Fin 16, s.params.nmax ≤ i.val → s.touch.getLsbD i.val = false
  /-- A note of 0 to 127, or 255 (10_state R39). -/
  lastnote : s.lastnote.toNat ≤ 127 ∨ s.lastnote.toNat = 255

/-- The state in which an agent's command is executed: RESET is released, the agent is served, and its words
decode to `d` (20_memory R66, 30_encoding R90). -/
abbrev Serves (s : State) (a : Agent) (d : Decoded) : Prop :=
  s.resetPin = false ∧ s.selected = some a ∧ s.decoded a = d

/-- The debouncer after a history of inputs with the run length of each step, newest first, from reset
(41_debouncer R145, R146). -/
def debounceRun (rebase : Bool) : List (Bool × Nat) → Bool × History
  | [] => (false, 0#31)
  | (x, steps) :: earlier =>
    let d := debounceRun rebase earlier
    debounceStep rebase d.1 d.2 x steps

/-- `h(k)`, the input k steps ago, continued before the reset by ones (41_debouncer R145). -/
def pastInput (history : List (Bool × Nat)) (k : Nat) : Bool := ((history[k]?).map Prod.fst).getD true

/-- The debouncer after further inputs, oldest first, at one run length (41_debouncer R147). -/
def debounceInputs (rebase : Bool) (steps : Nat) : List Bool → Bool × History → Bool × History
  | [], d => d
  | x :: later, d => debounceInputs rebase steps later (debounceStep rebase d.1 d.2 x steps)

/-- The average after `n` samples that all feed `val` to the smoother (40_calibrator R119). -/
def smoothRepeat (e val : Nat) : Nat → Nat → Nat
  | 0, avg => avg
  | n + 1, avg => smooth e (smoothRepeat e val n avg) val

/-- One row of the opcode map: the bits that select it and the command it is, given the word
(30_encoding R86). -/
structure OpcodeRow where
  mask : Word
  pattern : Word
  is : Word → FirstWord

/-- The opcode map as printed in 30_encoding R86. -/
def opcodeMap : List OpcodeRow := [
  ⟨0xFFFFFFFF#32, 0x01000000#32, fun _ => .sampleHeader⟩,
  ⟨0xFFFFFFFF#32, 0x02000000#32, fun _ => .single .calrst⟩,
  ⟨0xFFFFFFFF#32, 0x03000000#32, fun _ => .single .poll⟩,
  ⟨0xFFFFFF00#32, 0x10000000#32, fun w => .single (.setn (immField w))⟩,
  ⟨0xFFF0FF00#32, 0x11000000#32, fun w => .single (.setthr (chField w) (immField w))⟩,
  ⟨0xFFFFFF00#32, 0x12000000#32, fun w => .single (.setthrall (immField w))⟩,
  ⟨0xFFFFFF00#32, 0x13000000#32, fun w => .single (.setsteps (immField w))⟩,
  ⟨0xFFFFFF00#32, 0x14000000#32, fun w => .single (.setexp (immField w))⟩,
  ⟨0xFFFFFF00#32, 0x15000000#32, fun w => .single (.setroot (immField w))⟩,
  ⟨0xFFFFFF00#32, 0x16000000#32, fun w => .single (.setmode (immField w))⟩,
  ⟨0xFFFFFF00#32, 0x17000000#32, fun w => .single (.setpolicy (immField w))⟩,
  ⟨0xFFF0FFFF#32, 0x20000000#32, fun w => .single (.getavg (chField w))⟩,
  ⟨0xFFF0FFFF#32, 0x21000000#32, fun w => .single (.getmin (chField w))⟩,
  ⟨0xFFF0FFFF#32, 0x22000000#32, fun w => .single (.getmax (chField w))⟩,
  ⟨0xFFF0FFFF#32, 0x23000000#32, fun w => .single (.getnorm (chField w))⟩,
  ⟨0xFFFFFFFF#32, 0x24000000#32, fun _ => .single .gettouch⟩,
  ⟨0xFFFFFFFF#32, 0x25000000#32, fun _ => .single .getnote⟩]

/-- The word is that row's operation: `w & mask == match` (30_encoding R86). -/
abbrev OpcodeRow.Matches (r : OpcodeRow) (w : Word) : Prop := w &&& r.mask = r.pattern

/-- The responses once the issuer of the present command has been answered `w` (30_encoding R96). -/
abbrev State.answered (s : State) (w : Word) : List Response := s.responses ++ [⟨s.issuer, w⟩]

/-- Two channels that differ at most in `RAW` (10_state R21). -/
abbrev SameButRaw (c d : Channel) : Prop := d = { c with raw := d.raw }

/-- Two states that differ at most in the `RAW` registers (10_state R21). -/
abbrev AgreeButRaw (s t : State) : Prop :=
  t = { s with chans := t.chans } ∧ ∀ i : Fin 16, SameButRaw (s.chan i) (t.chan i)

/-- Two states that differ at most in the registers of inactive channels (10_state R30). -/
abbrev AgreeOnActive (s t : State) : Prop :=
  t = { s with chans := t.chans } ∧ ∀ i : Fin 16, i.val < s.nact.toNat → t.chan i = s.chan i

/-- Two states with the same registers: they differ at most in the interface (10_state R20). -/
abbrev SameRegisters (s t : State) : Prop :=
  t = { s with
    resetPin := t.resetPin, producer := t.producer, consumer := t.consumer, schedule := t.schedule,
    turn := t.turn, issuer := t.issuer, responses := t.responses, notes := t.notes }

end Sys2Proof.Machine
end

