-- ==== Sys2Proof/Certificates/Slice0/Obligations.lean ====
section
/-! DEFINITION. The statements for the provers. Each docstring names the rule of spec/ it rests on. -/

open Sys2Proof Sys2Proof.Machine Sys2Proof.Config

/-! ### Configuration writes -/

/-- 44_config_diag R221. The last clause: later frames are cut at the new count (30_encoding R85). -/
def Obligations.SetnWritesActiveCount : Prop :=
  ∀ (s : State) (imm : BitVec 8), s.params.nmax ≤ 16 →
    decodeFirst (0x10#8 ++ 0#16 ++ imm) = .single (.setn imm) ∧
    ∃ t : State, exec (.setn imm) s = .next t ∧
      t = { s with nact := t.nact, responses := s.answered 0#32 } ∧
      t.nact.toNat = (if 1 ≤ imm.toNat ∧ imm.toNat ≤ s.params.nmax then imm.toNat else s.nact.toNat) ∧
      ∀ a, t.decoded a = decode t.nact.toNat (s.words a)

/-- 44_config_diag R222. -/
def Obligations.SetthrWritesOneThreshold : Prop :=
  ∀ (s : State) (ch : BitVec 4) (imm : BitVec 8),
    decodeFirst (0x11#8 ++ 0#4 ++ ch ++ 0#8 ++ imm) = .single (.setthr ch imm) ∧
    ∃ t : State, exec (.setthr ch imm) s = .next t ∧
      t = { s with chans := t.chans, responses := s.answered 0#32 } ∧
      ∀ i : Fin 16, t.chan i =
        if i.val = ch.toNat ∧ ch.toNat < s.params.nmax then { s.chan i with thr := imm } else s.chan i

/-- 44_config_diag R223. -/
def Obligations.SetthrallWritesEveryThreshold : Prop :=
  ∀ (s : State) (imm : BitVec 8),
    decodeFirst (0x12#8 ++ 0#16 ++ imm) = .single (.setthrall imm) ∧
    ∃ t : State, exec (.setthrall imm) s = .next t ∧
      t = { s with chans := t.chans, responses := s.answered 0#32 } ∧
      ∀ i : Fin 16, t.chan i =
        if i.val < s.params.nmax then { s.chan i with thr := imm } else s.chan i

/-- 44_config_diag R224. -/
def Obligations.SetstepsWritesRunLength : Prop :=
  ∀ (s : State) (imm : BitVec 8),
    decodeFirst (0x13#8 ++ 0#16 ++ imm) = .single (.setsteps imm) ∧
    ∃ n : BitVec 5,
      exec (.setsteps imm) s = .next { s with steps := n, responses := s.answered 0#32 } ∧
      n.toNat = if 1 ≤ imm.toNat ∧ imm.toNat ≤ 31 then imm.toNat else s.steps.toNat

/-- 44_config_diag R225. -/
def Obligations.SetexpWritesExponent : Prop :=
  ∀ (s : State) (imm : BitVec 8),
    decodeFirst (0x14#8 ++ 0#16 ++ imm) = .single (.setexp imm) ∧
    ∃ e : BitVec 4,
      exec (.setexp imm) s = .next { s with exp := e, responses := s.answered 0#32 } ∧
      e.toNat = if imm.toNat ≤ 8 then imm.toNat else s.exp.toNat

/-- 44_config_diag R226, 43_decoder R181. -/
def Obligations.SetrootWritesRootAndScale : Prop :=
  ∀ (s : State) (imm : BitVec 8), Admissible s.params →
    decodeFirst (0x15#8 ++ 0#16 ++ imm) = .single (.setroot imm) ∧
    ∃ (r : BitVec 7) (sc : Vector (BitVec 8) 7),
      exec (.setroot imm) s =
        .next { s with root := r, scale := sc, responses := s.answered 0#32 } ∧
      if imm.toNat ≤ 127 then
        r.toNat = imm.toNat ∧
          ∀ d : Fin 7, sc[d].toNat = imm.toNat + s.params.modeT[modeNumber s.mode][d]
      else r = s.root ∧ sc = s.scale

/-- 44_config_diag R227, 43_decoder R181. -/
def Obligations.SetmodeWritesModeAndScale : Prop :=
  ∀ (s : State) (imm : BitVec 8), Admissible s.params →
    decodeFirst (0x16#8 ++ 0#16 ++ imm) = .single (.setmode imm) ∧
    ∃ (m : Mode) (sc : Vector (BitVec 8) 7),
      exec (.setmode imm) s =
        .next { s with mode := m, scale := sc, responses := s.answered 0#32 } ∧
      if imm.toNat ≤ 10 then
        (modeNumber m).val = imm.toNat ∧
          ∀ d : Fin 7, sc[d].toNat = s.root.toNat + s.params.modeT[modeNumber m][d]
      else m = s.mode ∧ sc = s.scale

/-- 44_config_diag R228. The last clause: the delegate has no effect under another policy (10_state R36). -/
def Obligations.SetpolicyWritesPolicyAndDelegate : Prop :=
  ∀ (s : State) (imm : BitVec 8),
    decodeFirst (0x17#8 ++ 0#16 ++ imm) = .single (.setpolicy imm) ∧
    (exec (.setpolicy imm) s =
      if imm.toNat ≤ 7 then
        .next { s with
          policy := match imm.toNat % 4 with
            | 0 => .natural
            | 1 => .lowBit
            | 2 => .gray
            | _ => .strong
          sfdeleg := if imm.toNat / 4 = 1 then .gray else .lowBit
          responses := s.answered 0#32 }
      else .next { s with responses := s.answered 0#32 }) ∧
    (s.policy ≠ .strong → ∀ (d : Delegate) (m : Mask),
      ({ s with sfdeleg := d }).decodeNote m = s.decodeNote m)

/-- 20_memory R72, 40_calibrator R116, 44_config_diag R220: repeating a configuration write or `CALRST`
leaves the registers as after the first. -/
def Obligations.WritesAreIdempotent : Prop :=
  ∀ (s : State) (i : Instr),
    (match i with
      | .calrst | .setn _ | .setthr _ _ | .setthrall _ | .setsteps _ | .setexp _ | .setroot _
      | .setmode _ | .setpolicy _ => True
      | .sample _ | .poll | .getavg _ | .getmin _ | .getmax _ | .getnorm _ | .gettouch
      | .getnote => False) →
    ∃ u t : State, exec i s = .next u ∧ exec i u = .next t ∧ SameRegisters u t

/-- 43_decoder R185: transposing to another root and back reproduces the scale. -/
def Obligations.TranspositionRoundTrip : Prop :=
  ∀ (s : State) (x r : BitVec 8), x.toNat ≤ 127 → r.toNat ≤ 127 →
    ∃ u t v : State,
      exec (.setroot x) s = .next u ∧ exec (.setroot r) u = .next t ∧ exec (.setroot r) s = .next v ∧
      t.scale = v.scale ∧ t.root = v.root ∧
      (s.scale = scaleOf s.params s.root s.mode → r.toNat = s.root.toNat → t.scale = s.scale)

/-! ### Diagnostic reads -/

/-- 44_config_diag R229 to R235, 30_encoding R98. -/
def Obligations.ReadsAnswerTheRegister : Prop :=
  (∀ (s : State) (ch : BitVec 4),
    (decodeFirst (0x20#8 ++ 0#4 ++ ch ++ 0#16) = .single (.getavg ch) ∧
      exec (.getavg ch) s = .next { s with
        responses := s.answered (if ch.toNat < s.params.nmax then (s.chan ch.toFin).avg else 0#32) }) ∧
    (decodeFirst (0x21#8 ++ 0#4 ++ ch ++ 0#16) = .single (.getmin ch) ∧
      exec (.getmin ch) s = .next { s with
        responses := s.answered (if ch.toNat < s.params.nmax then (s.chan ch.toFin).minv else 0#32) }) ∧
    (decodeFirst (0x22#8 ++ 0#4 ++ ch ++ 0#16) = .single (.getmax ch) ∧
      exec (.getmax ch) s = .next { s with
        responses := s.answered (if ch.toNat < s.params.nmax then (s.chan ch.toFin).maxv else 0#32) }) ∧
    (decodeFirst (0x23#8 ++ 0#4 ++ ch ++ 0#16) = .single (.getnorm ch) ∧
      exec (.getnorm ch) s = .next { s with
        responses := s.answered
          (if ch.toNat < s.params.nmax then BitVec.ofNat 32 (s.chan ch.toFin).norm.toNat else 0#32) })) ∧
  (∀ s : State,
    (decodeFirst 0x24000000#32 = .single .gettouch ∧
      exec .gettouch s = .next { s with responses := s.answered (BitVec.ofNat 32 s.touch.toNat) }) ∧
    (decodeFirst 0x25000000#32 = .single .getnote ∧
      exec .getnote s = .next { s with responses := s.answered (BitVec.ofNat 32 s.lastnote.toNat) }))

/-! ### Calibrator -/

/-- 40_calibrator R110 to R115, 30_encoding R85: what a whole frame does, register by register; `lo` and
`hi` are the bounds after the automatic reset, if this sample carries it. -/
def Obligations.SampleFoldsTheFrame : Prop :=
  ∀ (s : State) (frame rest : List Word), StateInv s → frame.length = s.nact.toNat →
    decode s.nact.toNat (0x01000000#32 :: (frame ++ rest)) = .instr (.sample frame) rest ∧
    ∃ t : State, exec (.sample frame) s = .next t ∧
      t = { s with chans := t.chans, cnt := s.cnt + 1#8, responses := s.answered 0#32 } ∧
      ∀ i : Fin 16,
        let c := s.chan i
        let d := t.chan i
        let wraps := s.cnt = 255#8 ∧ i.val < s.params.nmax
        let lo := if wraps then 2 ^ s.params.w - 1 else c.minv.toNat
        let hi := if wraps then 0 else c.maxv.toNat
        let r := (frame.getD i.val 0#32).toNat % 2 ^ s.params.w
        let val := if r = 0 ∨ r = 2 ^ s.params.w - 1 then lo else r
        let a := ((2 ^ s.exp.toNat - 1) * c.avg.toNat + val) / 2 ^ s.exp.toNat
        d = { c with raw := d.raw, avg := d.avg, minv := d.minv, maxv := d.maxv } ∧
        if i.val < s.nact.toNat then
          d.raw.toNat = r ∧ d.avg.toNat = a ∧ d.minv.toNat = Nat.min lo a ∧ d.maxv.toNat = Nat.max hi a
        else d.raw = c.raw ∧ d.avg = c.avg ∧ d.minv.toNat = lo ∧ d.maxv.toNat = hi

/-- 40_calibrator R111: on the 256th sample the bounds of every channel are reset before the fold. -/
def Obligations.AutomaticResetPrecedesTheFold : Prop :=
  ∀ (s : State) (frame : List Word), StateInv s → frame.length = s.nact.toNat → s.cnt = 255#8 →
    ∃ t : State, exec (.sample frame) s = .next t ∧ t.cnt = 0#8 ∧
      ∀ i : Fin 16, i.val < s.params.nmax →
        if i.val < s.nact.toNat then
          (t.chan i).minv = (t.chan i).avg ∧ (t.chan i).maxv = (t.chan i).avg
        else
          (t.chan i).minv.toNat = 2 ^ s.params.w - 1 ∧ (t.chan i).maxv.toNat = 0 ∧
            (t.chan i).avg = (s.chan i).avg

/-- 40_calibrator R121: whatever the state before, a sample leaves the average of every active channel
between its bounds; but for a reset no command raises a minimum or lowers a maximum. -/
def Obligations.SampleBracketsTheAverage : Prop :=
  (∀ (s : State) (frame : List Word), s.params.w ≤ 32 → frame.length = s.nact.toNat →
    ∃ t : State, exec (.sample frame) s = .next t ∧
      (∀ i : Fin 16, i.val < s.nact.toNat →
        (t.chan i).minv.toNat ≤ (t.chan i).avg.toNat ∧
          (t.chan i).avg.toNat ≤ (t.chan i).maxv.toNat) ∧
      (s.cnt ≠ 255#8 → ∀ i : Fin 16,
        (t.chan i).minv.toNat ≤ (s.chan i).minv.toNat ∧
          (s.chan i).maxv.toNat ≤ (t.chan i).maxv.toNat)) ∧
  (∀ (i : Instr) (s t : State), exec i s = .next t → i ≠ .calrst → (∀ frame, i ≠ .sample frame) →
    ∀ k : Fin 16, (t.chan k).minv = (s.chan k).minv ∧ (t.chan k).maxv = (s.chan k).maxv)

/-- 93_implementation_defined U4: words that are no whole frame are no command; where the model stops, by its
own choice (log 8). -/
def Obligations.BrokenFrameIsRefused : Prop :=
  (∀ (s : State) (frame : List Word), frame.length ≠ s.nact.toNat →
    exec (.sample frame) s = .refused .brokenFrame) ∧
  (∀ s : State, s.resetPin = false → s.ready .producer = false → s.ready .consumer = false →
    s.producer ++ s.consumer ≠ [] → step s = .refused .brokenFrame)

/-- 40_calibrator R116; straight after it every channel normalizes to 0, and a second `CALRST` changes
nothing further. -/
def Obligations.CalrstResetsEveryBound : Prop :=
  ∀ s : State, Admissible s.params →
    decodeFirst 0x02000000#32 = .single .calrst ∧
    ∃ t : State, exec .calrst s = .next t ∧
      t = { s with chans := t.chans, responses := s.answered 0#32 } ∧
      (∀ i : Fin 16,
        if i.val < s.params.nmax then
          t.chan i = { s.chan i with minv := (t.chan i).minv, maxv := (t.chan i).maxv } ∧
            (t.chan i).minv.toNat = 2 ^ s.params.w - 1 ∧ (t.chan i).maxv.toNat = 0 ∧
            (t.chan i).maxv.toNat < (t.chan i).minv.toNat ∧
            ∀ a, normalized a (t.chan i).minv.toNat (t.chan i).maxv.toNat = 0
        else t.chan i = s.chan i) ∧
      exec .calrst t = .next { t with responses := t.answered 0#32 }

/-- 40_calibrator R114: the equivalent form of the smoother, exact over the integers, and exponent 0. -/
def Obligations.SmootherEquivalentForm : Prop :=
  ∀ e avg val : Nat,
    (smooth e avg val : Int) = (avg : Int) + ((val : Int) - avg) / 2 ^ e ∧ smooth 0 avg val = val

/-- 40_calibrator R119: convergence under a constant input. -/
def Obligations.SmootherConverges : Prop :=
  ∀ e avg val : Nat,
    (val < avg → val ≤ smooth e avg val ∧ smooth e avg val + 1 ≤ avg ∧
      ∃ n, smoothRepeat e val n avg = val) ∧
    (avg ≤ val → avg ≤ smooth e avg val ∧ smooth e avg val ≤ val) ∧
    (smooth e avg val = avg ↔ avg ≤ val ∧ val - avg < 2 ^ e)

/-- 40_calibrator R120: no step of the smoother overflows. -/
def Obligations.SmootherFitsItsWidth : Prop :=
  ∀ w e avg val : Nat, e ≤ 8 → avg ≤ 2 ^ w - 1 → val ≤ 2 ^ w - 1 →
    (2 ^ e - 1) * avg + val ≤ 2 ^ 8 * (2 ^ w - 1) ∧ (2 ^ e - 1) * avg + val < 2 ^ (w + 8) ∧
      smooth e avg val ≤ 2 ^ w - 1

/-- 40_calibrator R117, R129: `NORM` as the rule prints it over the integers, and its laws. -/
def Obligations.NormalizeLaws : Prop :=
  ∀ a lo hi : Nat,
    ((normalized a lo hi : Int) =
      if (hi : Int) - lo < 5 then 0
      else if (a : Int) ≤ lo then 0
      else min 255 (255 * ((a : Int) - lo) / ((hi : Int) - lo))) ∧
    normalized a lo hi ≤ 255 ∧ (hi < lo + 5 → normalized a lo hi = 0) ∧
    (lo + 5 ≤ hi →
      normalized lo lo hi = 0 ∧ (hi ≤ a → normalized a lo hi = 255) ∧
        ∀ b, a ≤ b → normalized a lo hi ≤ normalized b lo hi)

/-- 40_calibrator R117, R128: in a state of the invariant a channel whose range is at least 5 is
normalized by the plain quotient; neither the second test nor the clamp decides anything. -/
def Obligations.NormalizeClampsUnreachable : Prop :=
  ∀ (s : State) (i : Fin 16), StateInv s → (s.chan i).minv.toNat + 5 ≤ (s.chan i).maxv.toNat →
    normalized (s.chan i).avg.toNat (s.chan i).minv.toNat (s.chan i).maxv.toNat =
      255 * ((s.chan i).avg.toNat - (s.chan i).minv.toNat) /
        ((s.chan i).maxv.toNat - (s.chan i).minv.toNat)

/-! ### Debouncer -/

/-- 41_debouncer R142, R143: the bit shifted in records agreement; the stable value flips, to the input,
exactly when the low bits of the updated register are all zero; the equivalent form on the register before
the shift; and the transparent case. -/
def Obligations.DebouncerFlipCondition : Prop :=
  ∀ (rebase v x : Bool) (f : History) (steps : Nat), 1 ≤ steps → steps ≤ 31 →
    (shiftHistory v f x).getLsbD 0 = (x == v) ∧
    (∀ k < 30, (shiftHistory v f x).getLsbD (k + 1) = f.getLsbD k) ∧
    ((debounceStep rebase v f x steps).1 ≠ v ↔
      ∀ k < steps, (shiftHistory v f x).getLsbD k = false) ∧
    ((debounceStep rebase v f x steps).1 ≠ v → (debounceStep rebase v f x steps).1 = x) ∧
    ((debounceStep rebase v f x steps).1 ≠ v ↔
      x ≠ v ∧ ∀ k < steps - 1, f.getLsbD k = false) ∧
    (steps = 1 → (debounceStep rebase v f x steps).1 = x)

/-- 41_debouncer R145, 10_state R49: the stable value and the history register after any inputs, with any
legal run length at each step, are those the input history gives. -/
def Obligations.DebouncerHistoryCharacterisation : Prop :=
  ∀ (history : List (Bool × Nat)) (x : Bool) (steps : Nat), 1 ≤ steps → steps ≤ 31 →
    (∀ p ∈ history, 1 ≤ p.2 ∧ p.2 ≤ 31) →
    let before := debounceRun true history
    let after := debounceRun true ((x, steps) :: history)
    let h := pastInput ((x, steps) :: history)
    after.1 = (if x ≠ before.1 ∧ ∀ k < steps, h k = x then x else before.1) ∧
      ∀ k < 31, after.2.getLsbD k = (h k == after.1)

/-- 41_debouncer R147: the run length of a settled debouncer; for two steps or more being settled is
necessary; and with re-basing no two flips are closer than the run length. -/
def Obligations.DebouncerRunLength : Prop :=
  ∀ (rebase v : Bool) (f : History) (steps : Nat), 1 ≤ steps → steps ≤ 31 →
    (f.getLsbD 0 = true →
      (∀ n < steps, (debounceInputs rebase steps (List.replicate n (!v)) (v, f)).1 = v) ∧
      (debounceInputs rebase steps (List.replicate steps (!v)) (v, f)).1 = !v ∧
      (debounceInputs rebase steps (List.replicate (steps - 1) (!v) ++ [v]) (v, f)).1 = v) ∧
    (2 ≤ steps →
      (∀ n < steps, (debounceInputs rebase steps (List.replicate n (!v)) (v, f)).1 = v) →
      f.getLsbD 0 = true) ∧
    (∀ (x : Bool) (later : List Bool), (debounceStep true v f x steps).1 ≠ v → later.length < steps →
      (debounceStep true v f x steps).2.getLsbD 0 = true ∧
      (debounceInputs true steps later (debounceStep true v f x steps)).1 = x)

/-- 41_debouncer R146: from reset the first input is accepted at once; after a first 0 a full run of ones
is needed. -/
def Obligations.DebouncerFromReset : Prop :=
  ∀ steps : Nat, 1 ≤ steps → steps ≤ 31 →
    debounceStep true false 0#31 true steps = (true, 0x7FFFFFFF#31) ∧
    debounceStep true false 0#31 false steps = (false, 1#31) ∧
    (∀ n < steps, (debounceInputs true steps (List.replicate n true) (false, 1#31)).1 = false) ∧
    (debounceInputs true steps (List.replicate steps true) (false, 1#31)).1 = true

/-- 41_debouncer R148: with a longer run length no step flips that the shorter one would not. -/
def Obligations.RaisingStepsCausesNoFlip : Prop :=
  ∀ (rebase v x : Bool) (f : History) (short long : Nat), 1 ≤ short → short ≤ long → long ≤ 31 →
    (debounceStep rebase v f x long).1 ≠ v → (debounceStep rebase v f x short).1 ≠ v

/-- 41_debouncer R149: without re-basing a bounce passes straight after a flip, with it none does. -/
def Obligations.LiteralDebouncerLetsBouncePass : Prop :=
  ((List.range 7).map fun n => (debounceInputs false 3
    ([true, true, true, false, true, false].take n) (false, 1#31)).1) =
      [false, false, false, true, false, true, false] ∧
  ((List.range 7).map fun n => (debounceInputs true 3
    ([true, true, true, false, true, false].take n) (false, 1#31)).1) =
      [false, false, false, true, true, true, true]

/-! ### Poll -/

/-- 42_aggregator R161, R162, R164: what a poll does to each channel, and its frame. -/
def Obligations.PollStepsActiveChannels : Prop :=
  ∀ s : State, decodeFirst 0x03000000#32 = .single .poll ∧
    ∃ t : State, exec .poll s = .next t ∧
      t = { s with
        chans := t.chans, touch := t.touch, lastnote := t.lastnote,
        responses := t.responses, notes := t.notes } ∧
      ∀ i : Fin 16,
        let c := s.chan i
        let d := t.chan i
        let n := normalized c.avg.toNat c.minv.toNat c.maxv.toNat
        if i.val < s.nact.toNat then
          d = { c with norm := d.norm, dbv := d.dbv, dbf := d.dbf } ∧ d.norm.toNat = n ∧
            (d.dbv, d.dbf) =
              debounceStep s.params.dbRebase c.dbv c.dbf (decide (n ≤ c.thr.toNat)) s.steps.toNat
        else d = c

/-- 42_aggregator R165 to R168, 30_encoding R97: the mask, the change, the note, the event, the response. -/
def Obligations.PollReportsChange : Prop :=
  ∀ s : State, ∃ t : State, exec .poll s = .next t ∧
    (∀ i : Fin 16, t.touch.getLsbD i.val = (decide (i.val < s.nact.toNat) && (t.chan i).dbv)) ∧
    if t.touch = s.touch then
      t.lastnote = s.lastnote ∧ t.notes = s.notes ∧
        t.responses = s.answered (BitVec.ofNat 32 (t.lastnote.toNat * 2 ^ 16 + t.touch.toNat))
    else
      t.lastnote = s.decodeNote t.touch ∧ t.notes = s.notes ++ [t.lastnote] ∧
        t.responses = s.answered
          (BitVec.ofNat 32 (2 ^ 31 + t.lastnote.toNat * 2 ^ 16 + t.touch.toNat))

/-- 42_aggregator R169 (1), 70_reset_and_hazards R285: the first poll after reset, for every implementation
and all launch values. That its response goes to the consumer is the model's choice of the issuer at reset
(log 6). -/
def Obligations.FirstPollOpensEveryPad : Prop :=
  ∀ p : Params, Admissible p →
    ∃ (t : State) (w : Word), exec .poll (State.launch p) = .next t ∧
      (∀ i : Fin 16, i.val < p.launch.nact.toNat →
        (t.chan i).norm = 0#8 ∧ (t.chan i).dbv = true) ∧
      t.touch.toNat = 2 ^ p.launch.nact.toNat - 1 ∧ t.notes = [t.lastnote] ∧
      t.responses = [⟨.consumer, w⟩] ∧ w.getLsbD 31 = true

/-- 42_aggregator R169 (2), 70_reset_and_hazards R282: a poll straight after `CALRST` reads every pad as
open, whatever the fingers do. -/
def Obligations.PollAfterCalrstReadsOpen : Prop :=
  ∀ s : State, Admissible s.params → s.nact.toNat ≤ s.params.nmax →
    ∃ u t : State, exec .calrst s = .next u ∧ exec .poll u = .next t ∧
      ∀ i : Fin 16, i.val < s.nact.toNat →
        (t.chan i).norm = 0#8 ∧
        ((t.chan i).dbv, (t.chan i).dbf) =
          debounceStep s.params.dbRebase (s.chan i).dbv (s.chan i).dbf true s.steps.toNat

/-- 10_state R30: a poll's mask, note, event and response do not depend on inactive channels. -/
def Obligations.InactiveChannelsDoNotInfluencePoll : Prop :=
  ∀ s s' : State, AgreeOnActive s s' →
    ∃ t t' : State, exec .poll s = .next t ∧ exec .poll s' = .next t' ∧ AgreeOnActive t t'

/-! ### Scale and decoder -/

/-- 43_decoder R187: the fold, one turn of its loop at a time. -/
def Obligations.FoldCountsOctaves : Prop :=
  ∀ (idx : Nat) (o : Int),
    if idx < 7 then (foldDegree idx o).1.val = idx ∧ (foldDegree idx o).2 = o
    else foldDegree idx o = foldDegree (idx - 7) (o + 12)

/-- 43_decoder R186: note assembly confines the note to 0 to 127 or 255. -/
def Obligations.FinishAssemblesTheNote : Prop :=
  ∀ (scale : Vector (BitVec 8) 7) (idx : Nat) (o acc : Int),
    let n : Int := (scale[Fin.ofNat 7 idx].toNat : Int) + (o + 12 * ((idx / 7 : Nat) : Int)) + acc
    ((finishNote scale idx o acc).toNat : Int) = if 0 ≤ n ∧ n ≤ 127 then n else 255

/-- 43_decoder R180, R200: the policy selects the decoder, and it is total: it answers 0 to 127 or exactly
255, for every mask and whatever the tables of logs 3 and 4 hold. -/
def Obligations.DecoderDispatchesAndIsTotal : Prop :=
  ∀ (s : State) (m : Mask),
    s.decodeNote m = (match s.policy with
      | .natural => naturalNote natTable s.params.natOct s.scale s.nact.toNat m
      | .lowBit => lowBitNote s.scale m
      | .gray => grayNote s.params.gray s.scale m
      | .strong => strongNote sfPerm s.sfdeleg s.params.gray s.scale m) ∧
    ((s.decodeNote m).toNat ≤ 127 ∨ (s.decodeNote m).toNat = 255)

/-- 43_decoder R188, R189: the bits of LowBitBinary. -/
def Obligations.LowBitReadsTheBits : Prop :=
  ∀ (scale : Vector (BitVec 8) 7) (m : Mask),
    lowBitNote scale m =
      finishNote scale (m.toNat % 8) (if m.toNat / 8 % 2 = 1 then 12 else 0)
        ((if m.toNat / 16 % 2 = 0 then -1 else 0) + (if m.toNat / 32 % 2 = 0 then 1 else 0)) ∧
    (m.toNat % 16 = 7 → lowBitNote scale m = lowBitNote scale (m ^^^ 15#16))

/-- 43_decoder R191, R192: the bits of GrayCode; the default table, which is presumed (log 13), inverts the
reflected binary code. -/
def Obligations.GrayReadsTheBits : Prop :=
  (∀ (gray : Vector (Option Nat) 16) (scale : Vector (BitVec 8) 7) (m : Mask),
    grayNote gray scale m =
      match gray[Fin.ofNat 16 m.toNat] with
      | some idx => finishNote scale idx 0
          ((if m.toNat / 16 % 2 = 0 then -1 else 0) + (if m.toNat / 32 % 2 = 0 then 1 else 0))
      | none => 255#8) ∧
  ∀ k : Fin 16, defaultGray[Fin.ofNat 16 (k.val ^^^ (k.val >>> 1))] = some k.val

/-- 43_decoder R190: mask bits at and above 6 are ignored by the policies that name six bits. -/
def Obligations.SixBitPoliciesIgnoreUpperBits : Prop :=
  ∀ (gray : Vector (Option Nat) 16) (scale : Vector (BitVec 8) 7) (perm : Fin 6 → Fin 6) (d : Delegate)
    (m n : Mask), m.toNat % 64 = n.toNat % 64 →
    lowBitNote scale m = lowBitNote scale n ∧ grayNote gray scale m = grayNote gray scale n ∧
      strongNote perm d gray scale m = strongNote perm d gray scale n

/-- 43_decoder R193 to R195: the bits of the Natural policy, with any table and any octave direction, and
the notes that the source fixes. -/
def Obligations.NaturalReadsTheBits : Prop :=
  (∀ (table : Nat → Nat → Option Nat) (oct : NatOct) (scale : Vector (BitVec 8) 7) (n : Nat) (m : Mask),
    n ≤ 16 →
    let top := m.toNat / 2 ^ (n - 1) % 2
    let next := m.toNat / 2 ^ (n - 2) % 2
    naturalNote table oct scale n m =
      if n < 3 then 255#8
      else if top = 0 ∧ next = 0 then 255#8
      else match table (n - 2) (m.toNat % 2 ^ (n - 2)) with
        | none => 255#8
        | some e => finishNote scale e
            (if top = 1 ∧ next = 1 then 0
              else if top = 1 then (if oct = .topRaises then 12 else -12)
              else (if oct = .topRaises then -12 else 12)) 0) ∧
  (∀ s : State, StateInv s → s.policy = .natural → s.nact = 6#5 → s.root = 60#7 → s.mode = .major →
    s.decodeNote 0b111111#16 = 60#8 ∧ s.decodeNote 0b111110#16 = 62#8 ∧ s.decodeNote 0#16 = 255#8)

/-- 43_decoder R198: StrongFinger permutes six bits and delegates; with the identity it is its delegate. -/
def Obligations.StrongPermutesThenDelegates : Prop :=
  ∀ (gray : Vector (Option Nat) 16) (scale : Vector (BitVec 8) 7) (perm : Fin 6 → Fin 6) (m : Mask),
    (∀ j : Fin 16, (permuteMask perm m).getLsbD j.val =
      if h : j.val < 6 then m.getLsbD (perm ⟨j.val, h⟩).val else false) ∧
    strongNote perm .lowBit gray scale m = lowBitNote scale (permuteMask perm m) ∧
    strongNote perm .gray gray scale m = grayNote gray scale (permuteMask perm m) ∧
    strongNote id .lowBit gray scale m = lowBitNote scale m ∧
    strongNote id .gray gray scale m = grayNote gray scale m

/-! ### Encoding -/

/-- 30_encoding R80 to R90: decoding the words of any well-formed command gives it back, and leaves the
words behind it. -/
def Obligations.DecodeEncodeAgree : Prop :=
  ∀ (i : Instr) (nmax nact : Nat) (rest : List Word), wellFormed nmax nact i = true →
    decode nact (encode i ++ rest) = .instr i rest

/-- 30_encoding R86: the decoder is the printed opcode map: a word of a row is that row's operation, a word
of no row is illegal. -/
def Obligations.DecoderIsTheOpcodeMap : Prop :=
  ∀ w : Word,
    (∀ r ∈ opcodeMap, r.Matches w → decodeFirst w = r.is w) ∧
    ((∀ r ∈ opcodeMap, ¬ r.Matches w) → ∃ why, decodeFirst w = .illegal why)

/-- 95_test_vectors V60: words written out by the spec decode to the commands it names. -/
def Obligations.SpecWordsDecode : Prop :=
  decode 2 [0x01000000#32, 0x000003E8#32, 0x00000BB8#32] =
    .instr (.sample [0x000003E8#32, 0x00000BB8#32]) [] ∧
  decode 2 [0x11030040#32] = .instr (.setthr 3#4 64#8) [] ∧
  decode 2 [0x17000007#32] = .instr (.setpolicy PolicyOperand.strongGray.imm) [] ∧
  decode 2 [0x220F0000#32] = .instr (.getmax 15#4) []

/-! ### Steps, agents, reset -/

/-- A step runs the decoded command: 20_memory R66, 30_encoding R90. The state it runs in differs only in
the interface (logs 5 and 6): the served agent goes on with its remaining words and is the issuer. -/
def Obligations.StepRunsTheDecodedCommand : Prop :=
  ∀ (s : State) (a : Agent) (i : Instr) (rest : List Word), Serves s a (.instr i rest) →
    step s = exec i (s.take a rest) ∧ SameRegisters s (s.take a rest) ∧
      (s.take a rest).words a = rest ∧ (s.take a rest).issuer = a ∧
      (∀ b, b ≠ a → (s.take a rest).words b = s.words b) ∧
      (s.take a rest).responses = s.responses ∧ (s.take a rest).notes = s.notes

/-- 30_encoding R89: an illegal command, by its word or by its operand, changes no register, consumes no
payload, emits nothing and responds 0; the all-zero word is one. -/
def Obligations.IllegalCommandsAreIgnored : Prop :=
  (∀ (nact : Nat) (w : Word) (rest : List Word), (∀ r ∈ opcodeMap, ¬ r.Matches w) →
    ∃ why, decode nact (w :: rest) = .illegal why rest) ∧
  (∀ (s : State) (a : Agent) (why : IllegalWord) (rest : List Word), Serves s a (.illegal why rest) →
    (∃ w, s.words a = w :: rest) ∧
    ∃ t : State, step s = .next t ∧ SameRegisters s t ∧ t.words a = rest ∧ t.notes = s.notes ∧
      t.responses = s.responses ++ [⟨a, 0#32⟩]) ∧
  (∀ (i : Instr) (s : State), (∀ frame, i ≠ .sample frame) →
    wellFormed s.params.nmax s.nact.toNat i = false →
    exec i s = .next { s with responses := s.answered 0#32 }) ∧
  (∀ r ∈ opcodeMap, ¬ r.Matches 0#32)

/-- 30_encoding R96, 20_memory R73, 60_exceptions R250: every command that is served completes and gives its
issuer exactly one response, 0 but for `POLL` and a legal read. -/
def Obligations.EveryCommandIsAnswered : Prop :=
  ∀ (s : State) (a : Agent), s.resetPin = false → s.selected = some a →
    ∃ (t : State) (w : Word), step s = .next t ∧ t.responses = s.responses ++ [⟨a, w⟩] ∧
      ((∀ i rest, s.decoded a = .instr i rest →
        (match i with
          | .poll | .getavg _ | .getmin _ | .getmax _ | .getnorm _ | .gettouch | .getnote =>
            wellFormed s.params.nmax s.nact.toNat i = false
          | .sample _ | .calrst | .setn _ | .setthr _ _ | .setthrall _ | .setsteps _ | .setexp _
          | .setroot _ | .setmode _ | .setpolicy _ => True)) → w = 0#32)

/-- 60_exceptions R254: a note event is emitted only by a `POLL` that changed the mask, one each, and it is
the cached note. -/
def Obligations.OnlyAChangingPollEmits : Prop :=
  ∀ s t : State, step s = .next t →
    t.notes = s.notes ∨
    (t.notes = s.notes ++ [t.lastnote] ∧ t.touch ≠ s.touch ∧
      ∃ a rest, Serves s a (.instr .poll rest))

/-- 10_state R40: which registers each command can change. -/
def Obligations.RegistersChangeOnlyByTheirWriters : Prop :=
  ∀ (i : Instr) (s t : State), exec i s = .next t →
    ((∀ frame, i ≠ .sample frame) →
      t.cnt = s.cnt ∧
      ∀ k, (t.chan k).raw = (s.chan k).raw ∧ (t.chan k).avg = (s.chan k).avg) ∧
    ((∀ frame, i ≠ .sample frame) → i ≠ .calrst →
      ∀ k, (t.chan k).minv = (s.chan k).minv ∧ (t.chan k).maxv = (s.chan k).maxv) ∧
    (i ≠ .poll →
      t.touch = s.touch ∧ t.lastnote = s.lastnote ∧ t.notes = s.notes ∧
      ∀ k, (t.chan k).norm = (s.chan k).norm ∧ (t.chan k).dbv = (s.chan k).dbv ∧
        (t.chan k).dbf = (s.chan k).dbf) ∧
    ((∀ ch imm, i ≠ .setthr ch imm) → (∀ imm, i ≠ .setthrall imm) →
      ∀ k, (t.chan k).thr = (s.chan k).thr) ∧
    ((∀ imm, i ≠ .setn imm) → t.nact = s.nact) ∧
    ((∀ imm, i ≠ .setsteps imm) → t.steps = s.steps) ∧
    ((∀ imm, i ≠ .setexp imm) → t.exp = s.exp) ∧
    ((∀ imm, i ≠ .setroot imm) → t.root = s.root) ∧
    ((∀ imm, i ≠ .setmode imm) → t.mode = s.mode) ∧
    ((∀ imm, i ≠ .setpolicy imm) → t.policy = s.policy ∧ t.sfdeleg = s.sfdeleg) ∧
    ((∀ imm, i ≠ .setroot imm) → (∀ imm, i ≠ .setmode imm) → t.scale = s.scale)

/-- 10_state R21: `RAW` is read by nothing: states that differ only in `RAW` answer and emit alike and stay
so. -/
def Obligations.RawIsUnobservable : Prop :=
  ∀ (i : Instr) (s s' t : State), AgreeButRaw s s' → exec i s = .next t →
    ∃ t' : State, exec i s' = .next t' ∧ AgreeButRaw t t'

/-- 20_memory R66: a step takes words from the front of one agent's stream and leaves the other's alone. -/
def Obligations.AgentStreamsKeepTheirOrder : Prop :=
  ∀ s t : State, step s = .next t →
    (t.producer = s.producer ∧ t.consumer <:+ s.consumer) ∨
    (t.consumer = s.consumer ∧ t.producer <:+ s.producer)

/-- 60_exceptions R255, 20_memory R66, 10_state R45: an agent that is ready is served when the other is not;
when both are ready one of the two commands is executed, whichever the open choice picks; with nothing
presented the machine is idle. -/
def Obligations.ReadyAgentsAreServed : Prop :=
  ∀ s : State,
    (∀ a, s.ready a = true → (∀ b, b ≠ a → s.ready b = false) → s.selected = some a) ∧
    (∀ (i j : Instr) (rest rest' : List Word), s.resetPin = false →
      s.decoded .producer = .instr i rest → s.decoded .consumer = .instr j rest' →
      step s = exec i (s.take .producer rest) ∨ step s = exec j (s.take .consumer rest')) ∧
    (s.resetPin = false → s.producer = [] → s.consumer = [] → step s = .next s)

/-- 20_memory R66, 60_exceptions R255: at every step either agent's next command, legal or not, may be executed,
whatever the other agent presents; every next state of a released machine comes of one agent's next command,
or of idling; and the step of the schedule that the state holds is among them. The schedule is the model's own
field (log 5). -/
def Obligations.EitherAgentMayBeServed : Prop :=
  ∀ s t : State, s.resetPin = false →
    (∀ (a : Agent) (i : Instr) (rest : List Word), s.decoded a = .instr i rest →
      ∃ l : List Agent, step (s.reschedule l) = exec i ((s.reschedule l).take a rest)) ∧
    (∀ (a : Agent) (why : IllegalWord) (rest : List Word), s.decoded a = .illegal why rest →
      ∃ l : List Agent, step (s.reschedule l) = .next ((s.reschedule l).take a rest).ignore) ∧
    (CanStep s t →
      (s.producer = [] ∧ s.consumer = [] ∧ t = s.reschedule t.schedule) ∨
      ∃ (a : Agent) (l : List Agent),
        (∃ i rest, s.decoded a = .instr i rest ∧
          exec i ((s.reschedule l).take a rest) = .next t) ∨
        (∃ why rest, s.decoded a = .illegal why rest ∧
          t = ((s.reschedule l).take a rest).ignore)) ∧
    (step s = .next t → CanStep s t) ∧
    ∀ l : List Agent, SameRegisters s (s.reschedule l) ∧ (s.reschedule l).producer = s.producer ∧
      (s.reschedule l).consumer = s.consumer ∧ (s.reschedule l).responses = s.responses ∧
      (s.reschedule l).notes = s.notes

/-- 70_reset_and_hazards R271: the reset state, for every implementation and all launch values. -/
def Obligations.ResetStateAsStated : Prop :=
  ∀ p : Params, Admissible p →
    (∀ i : Fin 16, i.val < p.nmax →
      let c := (State.launch p).chan i
      c.avg = 0#32 ∧ c.minv.toNat = 2 ^ p.w - 1 ∧ c.maxv = 0#32 ∧ c.dbv = false ∧ c.dbf = 0#31 ∧
        c.norm = 0#8) ∧
    (State.launch p).cnt = 0#8 ∧ (State.launch p).touch = 0#16 ∧ (State.launch p).lastnote = 255#8

/-- 70_reset_and_hazards R270: when RESET is asserted and when it is released, every register holds its reset
value, with or without a step between; a release of RESET that is not asserted changes nothing. That the launch
values of R47's unspecified registers come back, and what the interface keeps, is the model's choice
(log 7). -/
def Obligations.ReleasedResetLeavesTheResetState : Prop :=
  ∀ s : State,
    SameRegisters (State.launch s.params) s.assertReset ∧ s.assertReset.resetPin = true ∧
    SameRegisters (State.launch s.params) s.assertReset.releaseReset ∧
    s.releaseReset.resetPin = false ∧
    (s.resetPin = true → SameRegisters (State.launch s.params) s.releaseReset) ∧
    (s.resetPin = false → s.releaseReset = s) ∧
    (∀ a, s.assertReset.words a = s.words a ∧ s.releaseReset.words a = s.words a) ∧
    s.releaseReset.responses = s.responses ∧ s.releaseReset.notes = s.notes

/-- 70_reset_and_hazards R270, R273: while RESET is asserted no command is accepted and every register holds
its reset value; that the launch values of R47's unspecified registers come back is the model's choice
(log 7). -/
def Obligations.AssertedResetResetsEveryRegister : Prop :=
  ∀ s : State, s.resetPin = true →
    ∃ t : State, step s = .next t ∧ SameRegisters (State.launch s.params) t ∧
      t.resetPin = true ∧ t.producer = s.producer ∧ t.consumer = s.consumer ∧
      t.responses = s.responses ∧ t.notes = s.notes

/-! ### Invariants -/

/-- The reset state meets the invariant, for every implementation and all launch values (10_state R41 to
R47). -/
def Obligations.LaunchMeetsTheInvariant : Prop :=
  Admissible referenceParams ∧ State.reset = State.launch referenceParams ∧
    ∀ p : Params, Admissible p → StateInv (State.launch p)

/-- Every step keeps the invariant: W-bit registers (10_state R43), bounds that enclose the average or are
freshly reset (R42), legal configuration (R30 to R36), a consistent scale (R44), a mask without bits at or
above NMAX (R38), a note of 0 to 127 or 255 (R39). -/
def Obligations.StepKeepsTheInvariant : Prop :=
  ∀ s t : State, StateInv s → step s = .next t → StateInv t

/-- The inputs from outside keep the invariant; presenting words and settling a schedule change no register
(logs 5 and 7). -/
def Obligations.InputsKeepTheInvariant : Prop :=
  ∀ (s : State) (a : Agent) (ws : List Word) (l : List Agent), StateInv s →
    (StateInv (s.present a ws) ∧ StateInv (s.reschedule l) ∧ StateInv s.assertReset ∧
      StateInv s.releaseReset) ∧
    SameRegisters s (s.present a ws) ∧ SameRegisters s (s.reschedule l)

/-- No step changes the parameters of the implementation (10_state R48; log 1). -/
def Obligations.ParametersNeverChange : Prop :=
  ∀ s t : State, step s = .next t → t.params = s.params
end

