-- ==== Sys2Proof/Laws/State.lean ====
section
/-! SUPPORT. One lemma per field per update of State: what each named update leaves unchanged, and what it
writes. All are true by rfl. -/

namespace Sys2Proof.Machine

open Sys2Proof.Config

@[simp] theorem mapChans_params (f : Fin 16 → Channel → Channel) (s : State) : (s.mapChans f).params = s.params := rfl
@[simp] theorem mapChans_cnt (f : Fin 16 → Channel → Channel) (s : State) : (s.mapChans f).cnt = s.cnt := rfl
@[simp] theorem mapChans_nact (f : Fin 16 → Channel → Channel) (s : State) : (s.mapChans f).nact = s.nact := rfl
@[simp] theorem mapChans_steps (f : Fin 16 → Channel → Channel) (s : State) : (s.mapChans f).steps = s.steps := rfl
@[simp] theorem mapChans_exp (f : Fin 16 → Channel → Channel) (s : State) : (s.mapChans f).exp = s.exp := rfl
@[simp] theorem mapChans_root (f : Fin 16 → Channel → Channel) (s : State) : (s.mapChans f).root = s.root := rfl
@[simp] theorem mapChans_mode (f : Fin 16 → Channel → Channel) (s : State) : (s.mapChans f).mode = s.mode := rfl
@[simp] theorem mapChans_policy (f : Fin 16 → Channel → Channel) (s : State) : (s.mapChans f).policy = s.policy := rfl
@[simp] theorem mapChans_sfdeleg (f : Fin 16 → Channel → Channel) (s : State) : (s.mapChans f).sfdeleg = s.sfdeleg := rfl
@[simp] theorem mapChans_scale (f : Fin 16 → Channel → Channel) (s : State) : (s.mapChans f).scale = s.scale := rfl
@[simp] theorem mapChans_touch (f : Fin 16 → Channel → Channel) (s : State) : (s.mapChans f).touch = s.touch := rfl
@[simp] theorem mapChans_lastnote (f : Fin 16 → Channel → Channel) (s : State) : (s.mapChans f).lastnote = s.lastnote := rfl
@[simp] theorem mapChans_resetPin (f : Fin 16 → Channel → Channel) (s : State) : (s.mapChans f).resetPin = s.resetPin := rfl
@[simp] theorem mapChans_producer (f : Fin 16 → Channel → Channel) (s : State) : (s.mapChans f).producer = s.producer := rfl
@[simp] theorem mapChans_consumer (f : Fin 16 → Channel → Channel) (s : State) : (s.mapChans f).consumer = s.consumer := rfl
@[simp] theorem mapChans_schedule (f : Fin 16 → Channel → Channel) (s : State) : (s.mapChans f).schedule = s.schedule := rfl
@[simp] theorem mapChans_turn (f : Fin 16 → Channel → Channel) (s : State) : (s.mapChans f).turn = s.turn := rfl
@[simp] theorem mapChans_issuer (f : Fin 16 → Channel → Channel) (s : State) : (s.mapChans f).issuer = s.issuer := rfl
@[simp] theorem mapChans_responses (f : Fin 16 → Channel → Channel) (s : State) : (s.mapChans f).responses = s.responses := rfl
@[simp] theorem mapChans_notes (f : Fin 16 → Channel → Channel) (s : State) : (s.mapChans f).notes = s.notes := rfl

@[simp] theorem respond_params (w : Word) (s : State) : (s.respond w).params = s.params := rfl
@[simp] theorem respond_chans (w : Word) (s : State) : (s.respond w).chans = s.chans := rfl
@[simp] theorem respond_cnt (w : Word) (s : State) : (s.respond w).cnt = s.cnt := rfl
@[simp] theorem respond_nact (w : Word) (s : State) : (s.respond w).nact = s.nact := rfl
@[simp] theorem respond_steps (w : Word) (s : State) : (s.respond w).steps = s.steps := rfl
@[simp] theorem respond_exp (w : Word) (s : State) : (s.respond w).exp = s.exp := rfl
@[simp] theorem respond_root (w : Word) (s : State) : (s.respond w).root = s.root := rfl
@[simp] theorem respond_mode (w : Word) (s : State) : (s.respond w).mode = s.mode := rfl
@[simp] theorem respond_policy (w : Word) (s : State) : (s.respond w).policy = s.policy := rfl
@[simp] theorem respond_sfdeleg (w : Word) (s : State) : (s.respond w).sfdeleg = s.sfdeleg := rfl
@[simp] theorem respond_scale (w : Word) (s : State) : (s.respond w).scale = s.scale := rfl
@[simp] theorem respond_touch (w : Word) (s : State) : (s.respond w).touch = s.touch := rfl
@[simp] theorem respond_lastnote (w : Word) (s : State) : (s.respond w).lastnote = s.lastnote := rfl
@[simp] theorem respond_resetPin (w : Word) (s : State) : (s.respond w).resetPin = s.resetPin := rfl
@[simp] theorem respond_producer (w : Word) (s : State) : (s.respond w).producer = s.producer := rfl
@[simp] theorem respond_consumer (w : Word) (s : State) : (s.respond w).consumer = s.consumer := rfl
@[simp] theorem respond_schedule (w : Word) (s : State) : (s.respond w).schedule = s.schedule := rfl
@[simp] theorem respond_turn (w : Word) (s : State) : (s.respond w).turn = s.turn := rfl
@[simp] theorem respond_issuer (w : Word) (s : State) : (s.respond w).issuer = s.issuer := rfl
@[simp] theorem respond_notes (w : Word) (s : State) : (s.respond w).notes = s.notes := rfl

@[simp] theorem emitNote_params (n : Note) (s : State) : (s.emitNote n).params = s.params := rfl
@[simp] theorem emitNote_chans (n : Note) (s : State) : (s.emitNote n).chans = s.chans := rfl
@[simp] theorem emitNote_cnt (n : Note) (s : State) : (s.emitNote n).cnt = s.cnt := rfl
@[simp] theorem emitNote_nact (n : Note) (s : State) : (s.emitNote n).nact = s.nact := rfl
@[simp] theorem emitNote_steps (n : Note) (s : State) : (s.emitNote n).steps = s.steps := rfl
@[simp] theorem emitNote_exp (n : Note) (s : State) : (s.emitNote n).exp = s.exp := rfl
@[simp] theorem emitNote_root (n : Note) (s : State) : (s.emitNote n).root = s.root := rfl
@[simp] theorem emitNote_mode (n : Note) (s : State) : (s.emitNote n).mode = s.mode := rfl
@[simp] theorem emitNote_policy (n : Note) (s : State) : (s.emitNote n).policy = s.policy := rfl
@[simp] theorem emitNote_sfdeleg (n : Note) (s : State) : (s.emitNote n).sfdeleg = s.sfdeleg := rfl
@[simp] theorem emitNote_scale (n : Note) (s : State) : (s.emitNote n).scale = s.scale := rfl
@[simp] theorem emitNote_touch (n : Note) (s : State) : (s.emitNote n).touch = s.touch := rfl
@[simp] theorem emitNote_lastnote (n : Note) (s : State) : (s.emitNote n).lastnote = s.lastnote := rfl
@[simp] theorem emitNote_resetPin (n : Note) (s : State) : (s.emitNote n).resetPin = s.resetPin := rfl
@[simp] theorem emitNote_producer (n : Note) (s : State) : (s.emitNote n).producer = s.producer := rfl
@[simp] theorem emitNote_consumer (n : Note) (s : State) : (s.emitNote n).consumer = s.consumer := rfl
@[simp] theorem emitNote_schedule (n : Note) (s : State) : (s.emitNote n).schedule = s.schedule := rfl
@[simp] theorem emitNote_turn (n : Note) (s : State) : (s.emitNote n).turn = s.turn := rfl
@[simp] theorem emitNote_issuer (n : Note) (s : State) : (s.emitNote n).issuer = s.issuer := rfl
@[simp] theorem emitNote_responses (n : Note) (s : State) : (s.emitNote n).responses = s.responses := rfl

@[simp] theorem ignore_params (s : State) : (s.ignore).params = s.params := rfl
@[simp] theorem ignore_chans (s : State) : (s.ignore).chans = s.chans := rfl
@[simp] theorem ignore_cnt (s : State) : (s.ignore).cnt = s.cnt := rfl
@[simp] theorem ignore_nact (s : State) : (s.ignore).nact = s.nact := rfl
@[simp] theorem ignore_steps (s : State) : (s.ignore).steps = s.steps := rfl
@[simp] theorem ignore_exp (s : State) : (s.ignore).exp = s.exp := rfl
@[simp] theorem ignore_root (s : State) : (s.ignore).root = s.root := rfl
@[simp] theorem ignore_mode (s : State) : (s.ignore).mode = s.mode := rfl
@[simp] theorem ignore_policy (s : State) : (s.ignore).policy = s.policy := rfl
@[simp] theorem ignore_sfdeleg (s : State) : (s.ignore).sfdeleg = s.sfdeleg := rfl
@[simp] theorem ignore_scale (s : State) : (s.ignore).scale = s.scale := rfl
@[simp] theorem ignore_touch (s : State) : (s.ignore).touch = s.touch := rfl
@[simp] theorem ignore_lastnote (s : State) : (s.ignore).lastnote = s.lastnote := rfl
@[simp] theorem ignore_resetPin (s : State) : (s.ignore).resetPin = s.resetPin := rfl
@[simp] theorem ignore_producer (s : State) : (s.ignore).producer = s.producer := rfl
@[simp] theorem ignore_consumer (s : State) : (s.ignore).consumer = s.consumer := rfl
@[simp] theorem ignore_schedule (s : State) : (s.ignore).schedule = s.schedule := rfl
@[simp] theorem ignore_turn (s : State) : (s.ignore).turn = s.turn := rfl
@[simp] theorem ignore_issuer (s : State) : (s.ignore).issuer = s.issuer := rfl
@[simp] theorem ignore_notes (s : State) : (s.ignore).notes = s.notes := rfl

@[simp] theorem resetBounds_params (s : State) : (s.resetBounds).params = s.params := rfl
@[simp] theorem resetBounds_cnt (s : State) : (s.resetBounds).cnt = s.cnt := rfl
@[simp] theorem resetBounds_nact (s : State) : (s.resetBounds).nact = s.nact := rfl
@[simp] theorem resetBounds_steps (s : State) : (s.resetBounds).steps = s.steps := rfl
@[simp] theorem resetBounds_exp (s : State) : (s.resetBounds).exp = s.exp := rfl
@[simp] theorem resetBounds_root (s : State) : (s.resetBounds).root = s.root := rfl
@[simp] theorem resetBounds_mode (s : State) : (s.resetBounds).mode = s.mode := rfl
@[simp] theorem resetBounds_policy (s : State) : (s.resetBounds).policy = s.policy := rfl
@[simp] theorem resetBounds_sfdeleg (s : State) : (s.resetBounds).sfdeleg = s.sfdeleg := rfl
@[simp] theorem resetBounds_scale (s : State) : (s.resetBounds).scale = s.scale := rfl
@[simp] theorem resetBounds_touch (s : State) : (s.resetBounds).touch = s.touch := rfl
@[simp] theorem resetBounds_lastnote (s : State) : (s.resetBounds).lastnote = s.lastnote := rfl
@[simp] theorem resetBounds_resetPin (s : State) : (s.resetBounds).resetPin = s.resetPin := rfl
@[simp] theorem resetBounds_producer (s : State) : (s.resetBounds).producer = s.producer := rfl
@[simp] theorem resetBounds_consumer (s : State) : (s.resetBounds).consumer = s.consumer := rfl
@[simp] theorem resetBounds_schedule (s : State) : (s.resetBounds).schedule = s.schedule := rfl
@[simp] theorem resetBounds_turn (s : State) : (s.resetBounds).turn = s.turn := rfl
@[simp] theorem resetBounds_issuer (s : State) : (s.resetBounds).issuer = s.issuer := rfl
@[simp] theorem resetBounds_responses (s : State) : (s.resetBounds).responses = s.responses := rfl
@[simp] theorem resetBounds_notes (s : State) : (s.resetBounds).notes = s.notes := rfl

@[simp] theorem foldFrame_params (frame : List Word) (s : State) : (s.foldFrame frame).params = s.params := rfl
@[simp] theorem foldFrame_cnt (frame : List Word) (s : State) : (s.foldFrame frame).cnt = s.cnt := rfl
@[simp] theorem foldFrame_nact (frame : List Word) (s : State) : (s.foldFrame frame).nact = s.nact := rfl
@[simp] theorem foldFrame_steps (frame : List Word) (s : State) : (s.foldFrame frame).steps = s.steps := rfl
@[simp] theorem foldFrame_exp (frame : List Word) (s : State) : (s.foldFrame frame).exp = s.exp := rfl
@[simp] theorem foldFrame_root (frame : List Word) (s : State) : (s.foldFrame frame).root = s.root := rfl
@[simp] theorem foldFrame_mode (frame : List Word) (s : State) : (s.foldFrame frame).mode = s.mode := rfl
@[simp] theorem foldFrame_policy (frame : List Word) (s : State) : (s.foldFrame frame).policy = s.policy := rfl
@[simp] theorem foldFrame_sfdeleg (frame : List Word) (s : State) : (s.foldFrame frame).sfdeleg = s.sfdeleg := rfl
@[simp] theorem foldFrame_scale (frame : List Word) (s : State) : (s.foldFrame frame).scale = s.scale := rfl
@[simp] theorem foldFrame_touch (frame : List Word) (s : State) : (s.foldFrame frame).touch = s.touch := rfl
@[simp] theorem foldFrame_lastnote (frame : List Word) (s : State) : (s.foldFrame frame).lastnote = s.lastnote := rfl
@[simp] theorem foldFrame_resetPin (frame : List Word) (s : State) : (s.foldFrame frame).resetPin = s.resetPin := rfl
@[simp] theorem foldFrame_producer (frame : List Word) (s : State) : (s.foldFrame frame).producer = s.producer := rfl
@[simp] theorem foldFrame_consumer (frame : List Word) (s : State) : (s.foldFrame frame).consumer = s.consumer := rfl
@[simp] theorem foldFrame_schedule (frame : List Word) (s : State) : (s.foldFrame frame).schedule = s.schedule := rfl
@[simp] theorem foldFrame_turn (frame : List Word) (s : State) : (s.foldFrame frame).turn = s.turn := rfl
@[simp] theorem foldFrame_issuer (frame : List Word) (s : State) : (s.foldFrame frame).issuer = s.issuer := rfl
@[simp] theorem foldFrame_responses (frame : List Word) (s : State) : (s.foldFrame frame).responses = s.responses := rfl
@[simp] theorem foldFrame_notes (frame : List Word) (s : State) : (s.foldFrame frame).notes = s.notes := rfl

@[simp] theorem pollChannels_params (s : State) : (s.pollChannels).params = s.params := rfl
@[simp] theorem pollChannels_cnt (s : State) : (s.pollChannels).cnt = s.cnt := rfl
@[simp] theorem pollChannels_nact (s : State) : (s.pollChannels).nact = s.nact := rfl
@[simp] theorem pollChannels_steps (s : State) : (s.pollChannels).steps = s.steps := rfl
@[simp] theorem pollChannels_exp (s : State) : (s.pollChannels).exp = s.exp := rfl
@[simp] theorem pollChannels_root (s : State) : (s.pollChannels).root = s.root := rfl
@[simp] theorem pollChannels_mode (s : State) : (s.pollChannels).mode = s.mode := rfl
@[simp] theorem pollChannels_policy (s : State) : (s.pollChannels).policy = s.policy := rfl
@[simp] theorem pollChannels_sfdeleg (s : State) : (s.pollChannels).sfdeleg = s.sfdeleg := rfl
@[simp] theorem pollChannels_scale (s : State) : (s.pollChannels).scale = s.scale := rfl
@[simp] theorem pollChannels_touch (s : State) : (s.pollChannels).touch = s.touch := rfl
@[simp] theorem pollChannels_lastnote (s : State) : (s.pollChannels).lastnote = s.lastnote := rfl
@[simp] theorem pollChannels_resetPin (s : State) : (s.pollChannels).resetPin = s.resetPin := rfl
@[simp] theorem pollChannels_producer (s : State) : (s.pollChannels).producer = s.producer := rfl
@[simp] theorem pollChannels_consumer (s : State) : (s.pollChannels).consumer = s.consumer := rfl
@[simp] theorem pollChannels_schedule (s : State) : (s.pollChannels).schedule = s.schedule := rfl
@[simp] theorem pollChannels_turn (s : State) : (s.pollChannels).turn = s.turn := rfl
@[simp] theorem pollChannels_issuer (s : State) : (s.pollChannels).issuer = s.issuer := rfl
@[simp] theorem pollChannels_responses (s : State) : (s.pollChannels).responses = s.responses := rfl
@[simp] theorem pollChannels_notes (s : State) : (s.pollChannels).notes = s.notes := rfl

@[simp] theorem latchMask_params (t : Mask) (s : State) : (s.latchMask t).params = s.params := rfl
@[simp] theorem latchMask_chans (t : Mask) (s : State) : (s.latchMask t).chans = s.chans := rfl
@[simp] theorem latchMask_cnt (t : Mask) (s : State) : (s.latchMask t).cnt = s.cnt := rfl
@[simp] theorem latchMask_nact (t : Mask) (s : State) : (s.latchMask t).nact = s.nact := rfl
@[simp] theorem latchMask_steps (t : Mask) (s : State) : (s.latchMask t).steps = s.steps := rfl
@[simp] theorem latchMask_exp (t : Mask) (s : State) : (s.latchMask t).exp = s.exp := rfl
@[simp] theorem latchMask_root (t : Mask) (s : State) : (s.latchMask t).root = s.root := rfl
@[simp] theorem latchMask_mode (t : Mask) (s : State) : (s.latchMask t).mode = s.mode := rfl
@[simp] theorem latchMask_policy (t : Mask) (s : State) : (s.latchMask t).policy = s.policy := rfl
@[simp] theorem latchMask_sfdeleg (t : Mask) (s : State) : (s.latchMask t).sfdeleg = s.sfdeleg := rfl
@[simp] theorem latchMask_scale (t : Mask) (s : State) : (s.latchMask t).scale = s.scale := rfl
@[simp] theorem latchMask_resetPin (t : Mask) (s : State) : (s.latchMask t).resetPin = s.resetPin := rfl
@[simp] theorem latchMask_producer (t : Mask) (s : State) : (s.latchMask t).producer = s.producer := rfl
@[simp] theorem latchMask_consumer (t : Mask) (s : State) : (s.latchMask t).consumer = s.consumer := rfl
@[simp] theorem latchMask_schedule (t : Mask) (s : State) : (s.latchMask t).schedule = s.schedule := rfl
@[simp] theorem latchMask_turn (t : Mask) (s : State) : (s.latchMask t).turn = s.turn := rfl
@[simp] theorem latchMask_issuer (t : Mask) (s : State) : (s.latchMask t).issuer = s.issuer := rfl
@[simp] theorem latchMask_responses (t : Mask) (s : State) : (s.latchMask t).responses = s.responses := rfl

@[simp] theorem present_params (a : Agent) (ws : List Word) (s : State) : (s.present a ws).params = s.params := by cases a <;> rfl
@[simp] theorem present_chans (a : Agent) (ws : List Word) (s : State) : (s.present a ws).chans = s.chans := by cases a <;> rfl
@[simp] theorem present_cnt (a : Agent) (ws : List Word) (s : State) : (s.present a ws).cnt = s.cnt := by cases a <;> rfl
@[simp] theorem present_nact (a : Agent) (ws : List Word) (s : State) : (s.present a ws).nact = s.nact := by cases a <;> rfl
@[simp] theorem present_steps (a : Agent) (ws : List Word) (s : State) : (s.present a ws).steps = s.steps := by cases a <;> rfl
@[simp] theorem present_exp (a : Agent) (ws : List Word) (s : State) : (s.present a ws).exp = s.exp := by cases a <;> rfl
@[simp] theorem present_root (a : Agent) (ws : List Word) (s : State) : (s.present a ws).root = s.root := by cases a <;> rfl
@[simp] theorem present_mode (a : Agent) (ws : List Word) (s : State) : (s.present a ws).mode = s.mode := by cases a <;> rfl
@[simp] theorem present_policy (a : Agent) (ws : List Word) (s : State) : (s.present a ws).policy = s.policy := by cases a <;> rfl
@[simp] theorem present_sfdeleg (a : Agent) (ws : List Word) (s : State) : (s.present a ws).sfdeleg = s.sfdeleg := by cases a <;> rfl
@[simp] theorem present_scale (a : Agent) (ws : List Word) (s : State) : (s.present a ws).scale = s.scale := by cases a <;> rfl
@[simp] theorem present_touch (a : Agent) (ws : List Word) (s : State) : (s.present a ws).touch = s.touch := by cases a <;> rfl
@[simp] theorem present_lastnote (a : Agent) (ws : List Word) (s : State) : (s.present a ws).lastnote = s.lastnote := by cases a <;> rfl
@[simp] theorem present_resetPin (a : Agent) (ws : List Word) (s : State) : (s.present a ws).resetPin = s.resetPin := by cases a <;> rfl
@[simp] theorem present_schedule (a : Agent) (ws : List Word) (s : State) : (s.present a ws).schedule = s.schedule := by cases a <;> rfl
@[simp] theorem present_turn (a : Agent) (ws : List Word) (s : State) : (s.present a ws).turn = s.turn := by cases a <;> rfl
@[simp] theorem present_issuer (a : Agent) (ws : List Word) (s : State) : (s.present a ws).issuer = s.issuer := by cases a <;> rfl
@[simp] theorem present_responses (a : Agent) (ws : List Word) (s : State) : (s.present a ws).responses = s.responses := by cases a <;> rfl
@[simp] theorem present_notes (a : Agent) (ws : List Word) (s : State) : (s.present a ws).notes = s.notes := by cases a <;> rfl

@[simp] theorem reschedule_params (l : List Agent) (s : State) : (s.reschedule l).params = s.params := rfl
@[simp] theorem reschedule_chans (l : List Agent) (s : State) : (s.reschedule l).chans = s.chans := rfl
@[simp] theorem reschedule_cnt (l : List Agent) (s : State) : (s.reschedule l).cnt = s.cnt := rfl
@[simp] theorem reschedule_nact (l : List Agent) (s : State) : (s.reschedule l).nact = s.nact := rfl
@[simp] theorem reschedule_steps (l : List Agent) (s : State) : (s.reschedule l).steps = s.steps := rfl
@[simp] theorem reschedule_exp (l : List Agent) (s : State) : (s.reschedule l).exp = s.exp := rfl
@[simp] theorem reschedule_root (l : List Agent) (s : State) : (s.reschedule l).root = s.root := rfl
@[simp] theorem reschedule_mode (l : List Agent) (s : State) : (s.reschedule l).mode = s.mode := rfl
@[simp] theorem reschedule_policy (l : List Agent) (s : State) : (s.reschedule l).policy = s.policy := rfl
@[simp] theorem reschedule_sfdeleg (l : List Agent) (s : State) : (s.reschedule l).sfdeleg = s.sfdeleg := rfl
@[simp] theorem reschedule_scale (l : List Agent) (s : State) : (s.reschedule l).scale = s.scale := rfl
@[simp] theorem reschedule_touch (l : List Agent) (s : State) : (s.reschedule l).touch = s.touch := rfl
@[simp] theorem reschedule_lastnote (l : List Agent) (s : State) : (s.reschedule l).lastnote = s.lastnote := rfl
@[simp] theorem reschedule_resetPin (l : List Agent) (s : State) : (s.reschedule l).resetPin = s.resetPin := rfl
@[simp] theorem reschedule_producer (l : List Agent) (s : State) : (s.reschedule l).producer = s.producer := rfl
@[simp] theorem reschedule_consumer (l : List Agent) (s : State) : (s.reschedule l).consumer = s.consumer := rfl
@[simp] theorem reschedule_turn (l : List Agent) (s : State) : (s.reschedule l).turn = s.turn := rfl
@[simp] theorem reschedule_issuer (l : List Agent) (s : State) : (s.reschedule l).issuer = s.issuer := rfl
@[simp] theorem reschedule_responses (l : List Agent) (s : State) : (s.reschedule l).responses = s.responses := rfl
@[simp] theorem reschedule_notes (l : List Agent) (s : State) : (s.reschedule l).notes = s.notes := rfl

@[simp] theorem deviceReset_params (s : State) : (s.deviceReset).params = s.params := rfl
@[simp] theorem deviceReset_resetPin (s : State) : (s.deviceReset).resetPin = s.resetPin := rfl
@[simp] theorem deviceReset_producer (s : State) : (s.deviceReset).producer = s.producer := rfl
@[simp] theorem deviceReset_consumer (s : State) : (s.deviceReset).consumer = s.consumer := rfl
@[simp] theorem deviceReset_schedule (s : State) : (s.deviceReset).schedule = s.schedule := rfl
@[simp] theorem deviceReset_turn (s : State) : (s.deviceReset).turn = s.turn := rfl
@[simp] theorem deviceReset_issuer (s : State) : (s.deviceReset).issuer = s.issuer := rfl
@[simp] theorem deviceReset_responses (s : State) : (s.deviceReset).responses = s.responses := rfl
@[simp] theorem deviceReset_notes (s : State) : (s.deviceReset).notes = s.notes := rfl

@[simp] theorem respond_responses (w : Word) (s : State) :
    (s.respond w).responses = s.responses ++ [⟨s.issuer, w⟩] := rfl
@[simp] theorem ignore_responses (s : State) :
    s.ignore.responses = s.responses ++ [⟨s.issuer, 0#32⟩] := rfl
@[simp] theorem emitNote_notes (n : Note) (s : State) : (s.emitNote n).notes = s.notes ++ [n] := rfl
@[simp] theorem latchMask_touch (t : Mask) (s : State) : (s.latchMask t).touch = t := rfl
@[simp] theorem latchMask_lastnote (t : Mask) (s : State) :
    (s.latchMask t).lastnote = s.decodeNote t := rfl
@[simp] theorem latchMask_notes (t : Mask) (s : State) :
    (s.latchMask t).notes = s.notes ++ [s.decodeNote t] := rfl

@[simp] theorem respond_chan (w : Word) (s : State) (i : Fin 16) : (s.respond w).chan i = s.chan i := rfl
@[simp] theorem emitNote_chan (n : Note) (s : State) (i : Fin 16) : (s.emitNote n).chan i = s.chan i := rfl
@[simp] theorem ignore_chan (s : State) (i : Fin 16) : s.ignore.chan i = s.chan i := rfl
@[simp] theorem latchMask_chan (t : Mask) (s : State) (i : Fin 16) :
    (s.latchMask t).chan i = s.chan i := rfl

@[simp] theorem take_words (a : Agent) (rest : List Word) (s : State) :
    (s.take a rest).words a = rest := by cases a <;> rfl
@[simp] theorem take_issuer (a : Agent) (rest : List Word) (s : State) :
    (s.take a rest).issuer = a := by cases a <;> rfl
@[simp] theorem take_schedule (a : Agent) (rest : List Word) (s : State) :
    (s.take a rest).schedule = s.schedule.tail := by cases a <;> rfl
@[simp] theorem reschedule_schedule (l : List Agent) (s : State) : (s.reschedule l).schedule = l := rfl
@[simp] theorem reschedule_chan (l : List Agent) (s : State) (i : Fin 16) :
    (s.reschedule l).chan i = s.chan i := rfl
@[simp] theorem reschedule_words (l : List Agent) (s : State) (a : Agent) :
    (s.reschedule l).words a = s.words a := by cases a <;> rfl
@[simp] theorem reschedule_decoded (l : List Agent) (s : State) (a : Agent) :
    (s.reschedule l).decoded a = s.decoded a := by cases a <;> rfl
@[simp] theorem assertReset_resetPin (s : State) : s.assertReset.resetPin = true := rfl
@[simp] theorem releaseReset_resetPin (s : State) : s.releaseReset.resetPin = false := by
  cases h : s.resetPin <;> simp [State.releaseReset, h]
@[simp] theorem take_turn (a : Agent) (rest : List Word) (s : State) :
    (s.take a rest).turn = s.turn + 1 := by cases a <;> rfl
@[simp] theorem take_chan (a : Agent) (rest : List Word) (s : State) (i : Fin 16) :
    (s.take a rest).chan i = s.chan i := by cases a <;> rfl
@[simp] theorem take_params (a : Agent) (rest : List Word) (s : State) :
    (s.take a rest).params = s.params := by cases a <;> rfl
@[simp] theorem take_chans (a : Agent) (rest : List Word) (s : State) :
    (s.take a rest).chans = s.chans := by cases a <;> rfl
@[simp] theorem take_cnt (a : Agent) (rest : List Word) (s : State) :
    (s.take a rest).cnt = s.cnt := by cases a <;> rfl
@[simp] theorem take_nact (a : Agent) (rest : List Word) (s : State) :
    (s.take a rest).nact = s.nact := by cases a <;> rfl
@[simp] theorem take_steps (a : Agent) (rest : List Word) (s : State) :
    (s.take a rest).steps = s.steps := by cases a <;> rfl
@[simp] theorem take_exp (a : Agent) (rest : List Word) (s : State) :
    (s.take a rest).exp = s.exp := by cases a <;> rfl
@[simp] theorem take_root (a : Agent) (rest : List Word) (s : State) :
    (s.take a rest).root = s.root := by cases a <;> rfl
@[simp] theorem take_mode (a : Agent) (rest : List Word) (s : State) :
    (s.take a rest).mode = s.mode := by cases a <;> rfl
@[simp] theorem take_policy (a : Agent) (rest : List Word) (s : State) :
    (s.take a rest).policy = s.policy := by cases a <;> rfl
@[simp] theorem take_sfdeleg (a : Agent) (rest : List Word) (s : State) :
    (s.take a rest).sfdeleg = s.sfdeleg := by cases a <;> rfl
@[simp] theorem take_scale (a : Agent) (rest : List Word) (s : State) :
    (s.take a rest).scale = s.scale := by cases a <;> rfl
@[simp] theorem take_touch (a : Agent) (rest : List Word) (s : State) :
    (s.take a rest).touch = s.touch := by cases a <;> rfl
@[simp] theorem take_lastnote (a : Agent) (rest : List Word) (s : State) :
    (s.take a rest).lastnote = s.lastnote := by cases a <;> rfl
@[simp] theorem take_resetPin (a : Agent) (rest : List Word) (s : State) :
    (s.take a rest).resetPin = s.resetPin := by cases a <;> rfl
@[simp] theorem take_responses (a : Agent) (rest : List Word) (s : State) :
    (s.take a rest).responses = s.responses := by cases a <;> rfl
@[simp] theorem take_notes (a : Agent) (rest : List Word) (s : State) :
    (s.take a rest).notes = s.notes := by cases a <;> rfl

@[simp] theorem countSample_cnt (s : State) : s.countSample.cnt = s.cnt + 1#8 := by
  unfold State.countSample; dsimp only; split <;> rfl
@[simp] theorem countSample_params (s : State) : s.countSample.params = s.params := by
  unfold State.countSample; dsimp only; split <;> rfl
@[simp] theorem countSample_nact (s : State) : s.countSample.nact = s.nact := by
  unfold State.countSample; dsimp only; split <;> rfl
@[simp] theorem countSample_steps (s : State) : s.countSample.steps = s.steps := by
  unfold State.countSample; dsimp only; split <;> rfl
@[simp] theorem countSample_exp (s : State) : s.countSample.exp = s.exp := by
  unfold State.countSample; dsimp only; split <;> rfl
@[simp] theorem countSample_root (s : State) : s.countSample.root = s.root := by
  unfold State.countSample; dsimp only; split <;> rfl
@[simp] theorem countSample_mode (s : State) : s.countSample.mode = s.mode := by
  unfold State.countSample; dsimp only; split <;> rfl
@[simp] theorem countSample_policy (s : State) : s.countSample.policy = s.policy := by
  unfold State.countSample; dsimp only; split <;> rfl
@[simp] theorem countSample_sfdeleg (s : State) : s.countSample.sfdeleg = s.sfdeleg := by
  unfold State.countSample; dsimp only; split <;> rfl
@[simp] theorem countSample_scale (s : State) : s.countSample.scale = s.scale := by
  unfold State.countSample; dsimp only; split <;> rfl
@[simp] theorem countSample_touch (s : State) : s.countSample.touch = s.touch := by
  unfold State.countSample; dsimp only; split <;> rfl
@[simp] theorem countSample_lastnote (s : State) : s.countSample.lastnote = s.lastnote := by
  unfold State.countSample; dsimp only; split <;> rfl
@[simp] theorem countSample_resetPin (s : State) : s.countSample.resetPin = s.resetPin := by
  unfold State.countSample; dsimp only; split <;> rfl
@[simp] theorem countSample_producer (s : State) : s.countSample.producer = s.producer := by
  unfold State.countSample; dsimp only; split <;> rfl
@[simp] theorem countSample_consumer (s : State) : s.countSample.consumer = s.consumer := by
  unfold State.countSample; dsimp only; split <;> rfl
@[simp] theorem countSample_schedule (s : State) : s.countSample.schedule = s.schedule := by
  unfold State.countSample; dsimp only; split <;> rfl
@[simp] theorem countSample_turn (s : State) : s.countSample.turn = s.turn := by
  unfold State.countSample; dsimp only; split <;> rfl
@[simp] theorem countSample_issuer (s : State) : s.countSample.issuer = s.issuer := by
  unfold State.countSample; dsimp only; split <;> rfl
@[simp] theorem countSample_responses (s : State) : s.countSample.responses = s.responses := by
  unfold State.countSample; dsimp only; split <;> rfl
@[simp] theorem countSample_notes (s : State) : s.countSample.notes = s.notes := by
  unfold State.countSample; dsimp only; split <;> rfl

end Sys2Proof.Machine
end

