-- ==== Sys2Proof/Laws/Ops.lean ====
section
/-! SUPPORT. What each shared operation does, said once. -/

namespace Sys2Proof.Machine

open Sys2Proof.Config

/-- Two states are equal when their channels and all other fields are. -/
theorem chan_ext {a b : Vector Channel 16} (h : ∀ i : Fin 16, a[i] = b[i]) : a = b :=
  Vector.ext fun i hi => h ⟨i, hi⟩

/-- Reading one slot. -/
@[simp] theorem slots_get {α : Type} (f : Fin 16 → α) (i : Fin 16) : (slots f)[i] = f i := by
  fin_cases i <;> rfl

/-- Reading one degree. -/
@[simp] theorem degrees_get {α : Type} (f : Fin 7 → α) (d : Fin 7) : (degrees f)[d] = f d := by
  fin_cases d <;> rfl

@[simp] theorem mapChans_chan (f : Fin 16 → Channel → Channel) (s : State) (i : Fin 16) :
    (s.mapChans f).chan i = f i (s.chan i) :=
  slots_get _ i

theorem resetBounds_chan (s : State) (i : Fin 16) :
    s.resetBounds.chan i =
      if i.val < s.params.nmax then (s.chan i).resetBounds (rawMax s.params) else s.chan i := by
  simp [State.resetBounds, State.implemented]

theorem foldFrame_chan (frame : List Word) (s : State) (i : Fin 16) :
    (s.foldFrame frame).chan i =
      if i.val < s.nact.toNat then
        (s.chan i).fold (rawMax s.params) s.exp.toNat (sampleOf s.params (frame.getD i.val 0#32))
      else s.chan i := by
  simp [State.foldFrame, State.active]

theorem countSample_chan (s : State) (i : Fin 16) :
    s.countSample.chan i =
      if s.cnt + 1#8 = 0#8 ∧ i.val < s.params.nmax then (s.chan i).resetBounds (rawMax s.params)
      else s.chan i := by
  unfold State.countSample
  by_cases h : s.cnt + 1#8 = 0#8
  · simp only [h, if_true, true_and]
    exact resetBounds_chan { s with cnt := 0#8 } i
  · simp [h, State.chan]

theorem pollChannels_chan (s : State) (i : Fin 16) :
    s.pollChannels.chan i =
      if i.val < s.nact.toNat then (s.chan i).poll s.params.dbRebase s.steps.toNat else s.chan i := by
  simp [State.pollChannels, State.active]

/-- Counting a sample writes `CNT` and the channels only. -/
theorem countSample_eq (s : State) :
    s.countSample = { s with cnt := s.cnt + 1#8, chans := s.countSample.chans } := by
  unfold State.countSample; dsimp only
  by_cases h : s.cnt + 1#8 = 0#8
  · simp only [h, if_true]; rfl
  · simp only [h, if_false]

/-- What a whole `SAMPLE` writes: `CNT`, the channels and the response (40_calibrator R110). -/
theorem sampled_eq (frame : List Word) (s : State) :
    (s.countSample.foldFrame frame).respond 0#32 =
      { s with
        chans := (s.countSample.foldFrame frame).chans
        cnt := s.cnt + 1#8
        responses := s.answered 0#32 } := by
  have hr : ∀ u : State, u.respond 0#32 = { u with responses := u.responses ++ [⟨u.issuer, 0#32⟩] } :=
    fun _ => rfl
  have hf : s.countSample.foldFrame frame =
      { s.countSample with chans := (s.countSample.foldFrame frame).chans } := rfl
  rw [hr, hf]
  generalize (s.countSample.foldFrame frame).chans = c
  rw [countSample_eq]

/-- Reading one bit of the mask. -/
theorem maskOf_getLsbD (f : Fin 16 → Bool) (i : Fin 16) : (maskOf f).getLsbD i.val = f i := by
  have key : ∀ (l : List (Fin 16)) (m : Mask),
      (l.foldl (fun m i => if f i then m ||| BitVec.twoPow 16 i.val else m) m).getLsbD i.val =
        (m.getLsbD i.val || (decide (i ∈ l) && f i)) := by
    intro l
    induction l with
    | nil => simp
    | cons j l ih =>
      intro m
      rw [List.foldl_cons, ih]
      by_cases hij : j = i
      · subst hij
        by_cases hf : f j <;> simp [hf]
      · have hne : ¬ i.val = j.val := fun h => hij (Fin.ext h.symm)
        by_cases hf : f j <;> simp [hf, Ne.symm hij, hne]
  rw [maskOf, key]
  simp

@[simp] theorem maskOf_getElem (f : Fin 16 → Bool) (i : Fin 16) : (maskOf f)[i.val] = f i :=
  maskOf_getLsbD f i

theorem freshMask_getLsbD (s : State) (i : Fin 16) :
    s.freshMask.getLsbD i.val = (s.active i && (s.chan i).dbv) :=
  maskOf_getLsbD _ i

/-- Two masks are equal when their 16 bits are. -/
theorem mask_ext {a b : Mask} (h : ∀ i : Fin 16, a.getLsbD i.val = b.getLsbD i.val) : a = b :=
  BitVec.eq_of_getLsbD_eq fun i hi => h ⟨i, hi⟩

/-- A configuration write answers 0 in every case, and writes exactly when its operand is legal. -/
theorem commit_cases (legal : Bool) (written s : State) :
    (legal = true ∧ s.commit legal written = written.respond 0#32) ∨
      (legal = false ∧ s.commit legal written = s.respond 0#32) := by
  cases legal <;> simp [State.commit, State.ignore]

/-- A diagnostic read only responds. -/
theorem answer_eq (legal : Bool) (value : Word) (s : State) :
    s.answer legal value = s.respond (if legal then value else 0#32) := by
  cases legal <;> rfl

/-- `NORM` is an 8-bit value (40_calibrator R129). -/
theorem normalize_le (a lo hi : Nat) : normalized a lo hi ≤ 255 := by
  unfold normalized
  split_ifs <;> simp

/-- What one step can do, said once. -/
theorem step_cases {s t : State} (h : step s = .next t) :
    (s.resetPin = true ∧ t = s.deviceReset) ∨
    (s.resetPin = false ∧ s.fetch = .idle ∧ t = s) ∨
    (s.resetPin = false ∧ ∃ i u, s.fetch = .command i u ∧ exec i u = .next t) ∨
    (s.resetPin = false ∧ ∃ why u, s.fetch = .illegal why u ∧ t = u.ignore) := by
  unfold step at h
  by_cases hr : s.resetPin
  · left
    simp only [hr, if_true] at h
    exact ⟨hr, (Host.Outcome.next.inj h).symm⟩
  · have hr' : s.resetPin = false := by simpa using hr
    simp only [hr', Bool.false_eq_true, if_false] at h
    right
    cases hf : s.fetch with
    | idle => rw [hf] at h; exact .inl ⟨hr', rfl, (Host.Outcome.next.inj h).symm⟩
    | truncated => rw [hf] at h; cases h
    | command i u => rw [hf] at h; exact .inr (.inl ⟨hr', i, u, rfl, h⟩)
    | illegal why u => rw [hf] at h; exact .inr (.inr ⟨hr', why, u, rfl, (Host.Outcome.next.inj h).symm⟩)

/-- A fetched command was cut off the words of the selected agent. -/
theorem fetch_command {s u : State} {i : Instr} (h : s.fetch = .command i u) :
    ∃ a rest, s.selected = some a ∧ s.decoded a = .instr i rest ∧ u = s.take a rest := by
  unfold State.fetch at h
  cases hs : s.selected with
  | none => rw [hs] at h; dsimp only at h; split at h <;> cases h
  | some a =>
    rw [hs] at h
    dsimp only at h
    cases hd : s.decoded a with
    | noWords => rw [hd] at h; cases h
    | truncatedFrame => rw [hd] at h; cases h
    | instr j rest => rw [hd] at h; cases h; exact ⟨a, rest, rfl, hd, rfl⟩
    | illegal why rest => rw [hd] at h; cases h

/-- A fetched illegal word was cut off the words of the selected agent. -/
theorem fetch_illegal {s u : State} {why : IllegalWord} (h : s.fetch = .illegal why u) :
    ∃ a rest, s.selected = some a ∧ s.decoded a = .illegal why rest ∧ u = s.take a rest := by
  unfold State.fetch at h
  cases hs : s.selected with
  | none => rw [hs] at h; dsimp only at h; split at h <;> cases h
  | some a =>
    rw [hs] at h
    dsimp only at h
    cases hd : s.decoded a with
    | noWords => rw [hd] at h; cases h
    | truncatedFrame => rw [hd] at h; cases h
    | instr j rest => rw [hd] at h; cases h
    | illegal w rest => rw [hd] at h; cases h; exact ⟨a, rest, rfl, hd, rfl⟩

/-- The agent that is selected is ready. -/
theorem selected_ready {s : State} {a : Agent} (h : s.selected = some a) : s.ready a = true := by
  unfold State.selected State.preferred at h
  cases hp : s.ready .producer <;> cases hc : s.ready .consumer <;> rw [hp, hc] at h
  · cases h
  · cases h; exact hc
  · cases h; exact hp
  · cases h
    split
    · rename_i b _ _
      cases b <;> assumption
    · split <;> assumption

/-- When both agents are ready, the first entry of the schedule is served (20_memory R66, 60_exceptions
R255). -/
theorem selected_of_both {s : State} (hp : s.ready .producer = true) (hc : s.ready .consumer = true)
    (a : Agent) (l : List Agent) : (s.reschedule (a :: l)).selected = some a := by
  have hp' : (s.reschedule (a :: l)).ready .producer = true := hp
  have hc' : (s.reschedule (a :: l)).ready .consumer = true := hc
  unfold State.selected
  rw [hp', hc']
  rfl

/-- A ready agent is served under the schedule that names it, whatever the other agent presents (20_memory R66,
60_exceptions R255). -/
theorem selected_of_ready {s : State} {a : Agent} (h : s.ready a = true) :
    (s.reschedule [a]).selected = some a := by
  by_cases hp : s.ready .producer = true
  · by_cases hc : s.ready .consumer = true
    · exact selected_of_both hp hc a []
    · cases a with
      | producer =>
        have hp' : (s.reschedule [.producer]).ready .producer = true := hp
        have hc' : (s.reschedule [.producer]).ready .consumer = false :=
          (by simpa using hc : s.ready .consumer = false)
        unfold State.selected; rw [hp', hc']
      | consumer => exact absurd h hc
  · cases a with
    | producer => exact absurd h hp
    | consumer =>
      have hp' : (s.reschedule [.consumer]).ready .producer = false :=
        (by simpa using hp : s.ready .producer = false)
      have hc' : (s.reschedule [.consumer]).ready .consumer = true := h
      unfold State.selected; rw [hp', hc']

/-- Releasing RESET: nothing while it is not asserted, else the reset values (70_reset_and_hazards R270). -/
theorem releaseReset_cases (s : State) :
    (s.resetPin = false ∧ s.releaseReset = s) ∨
      (s.resetPin = true ∧ s.releaseReset = { s.deviceReset with resetPin := false }) := by
  cases h : s.resetPin <;> simp [State.releaseReset, h]

end Sys2Proof.Machine
end

