-- ==== Sys2Proof/Laws/PerInstr.lean ====
section
/-! SUPPORT. Families of statements about every command, one lemma per constructor. -/

namespace Sys2Proof.Laws.WordCount

/-- Every command is one word, but for `SAMPLE`, one header and its payload (30_encoding R80). -/
def Statement (i : Instr) : Prop :=
  (encode i).length = match i with
    | .sample frame => 1 + frame.length
    | _ => 1

theorem sample (frame : List Word) : Statement (.sample frame) := by
  simp [Statement, encode, Nat.add_comm]
theorem calrst : Statement .calrst := rfl
theorem poll : Statement .poll := rfl
theorem setn (imm : BitVec 8) : Statement (.setn imm) := rfl
theorem setthr (ch : BitVec 4) (imm : BitVec 8) : Statement (.setthr ch imm) := rfl
theorem setthrall (imm : BitVec 8) : Statement (.setthrall imm) := rfl
theorem setsteps (imm : BitVec 8) : Statement (.setsteps imm) := rfl
theorem setexp (imm : BitVec 8) : Statement (.setexp imm) := rfl
theorem setroot (imm : BitVec 8) : Statement (.setroot imm) := rfl
theorem setmode (imm : BitVec 8) : Statement (.setmode imm) := rfl
theorem setpolicy (imm : BitVec 8) : Statement (.setpolicy imm) := rfl
theorem getavg (ch : BitVec 4) : Statement (.getavg ch) := rfl
theorem getmin (ch : BitVec 4) : Statement (.getmin ch) := rfl
theorem getmax (ch : BitVec 4) : Statement (.getmax ch) := rfl
theorem getnorm (ch : BitVec 4) : Statement (.getnorm ch) := rfl
theorem gettouch : Statement .gettouch := rfl
theorem getnote : Statement .getnote := rfl

end Sys2Proof.Laws.WordCount
end

