-- ==== Sys2Proof/Tests/Slice0.lean ====
section
/-! SUPPORT. Small tests: well-formedness, decoding of words written out from the spec's encoding, the
spec's own examples for each instruction, and for each statement with hypotheses a state and operands that
meet them. Expected values are those of 95_test_vectors and of the rules' worked examples. -/

namespace Sys2Proof.Tests

open Sys2Proof Sys2Proof.Machine Sys2Proof.Config

/-! ### Well-formedness: one ill-formed term for each check -/

theorem test_wf_sample_short : wellFormed 16 2 (.sample [1#32]) = false := by decide
theorem test_wf_setn_zero : wellFormed 16 2 (.setn 0#8) = false := by decide
theorem test_wf_setn_above : wellFormed 16 2 (.setn 17#8) = false := by decide
theorem test_wf_setthr : wellFormed 8 2 (.setthr 8#4 1#8) = false := by decide
theorem test_wf_setsteps_zero : wellFormed 16 2 (.setsteps 0#8) = false := by decide
theorem test_wf_setsteps_above : wellFormed 16 2 (.setsteps 32#8) = false := by decide
theorem test_wf_setexp : wellFormed 16 2 (.setexp 9#8) = false := by decide
theorem test_wf_setroot : wellFormed 16 2 (.setroot 128#8) = false := by decide
theorem test_wf_setmode : wellFormed 16 2 (.setmode 11#8) = false := by decide
theorem test_wf_setpolicy : wellFormed 16 2 (.setpolicy 8#8) = false := by decide
theorem test_wf_getavg : wellFormed 8 2 (.getavg 8#4) = false := by decide
theorem test_wf_getmin : wellFormed 8 2 (.getmin 8#4) = false := by decide
theorem test_wf_getmax : wellFormed 8 2 (.getmax 8#4) = false := by decide
theorem test_wf_getnorm : wellFormed 8 2 (.getnorm 8#4) = false := by decide
theorem test_wf_largest_operands :
    [Instr.sample [0#32, 0#32], .setn 16#8, .setthr 15#4 255#8, .setsteps 31#8, .setexp 8#8,
      .setroot 127#8, .setmode 10#8, .setpolicy 7#8, .getavg 15#4].all (wellFormed 16 2) = true := by
  decide

/-! ### Decoding: each row's word written bit by bit, fields in the order of 30_encoding R81 to R85 -/

theorem test_decode_sample :
    decode 2 [0b00000001000000000000000000000000#32, 0x000003E8#32, 0x00000BB8#32] =
      .instr (.sample [1000#32, 3000#32]) [] := by decide
theorem test_decode_calrst :
    decodeFirst 0b00000010000000000000000000000000#32 = .single .calrst := by decide
theorem test_decode_poll :
    decodeFirst 0b00000011000000000000000000000000#32 = .single .poll := by decide
theorem test_decode_setn :
    decodeFirst 0b00010000000000000000000000000110#32 = .single (.setn 6#8) := by decide
theorem test_decode_setthr :
    decodeFirst 0b00010001000000110000000001000000#32 = .single (.setthr 3#4 64#8) := by decide
theorem test_decode_setthrall :
    decodeFirst 0b00010010000000000000000010000000#32 = .single (.setthrall 128#8) := by decide
theorem test_decode_setsteps :
    decodeFirst 0b00010011000000000000000000000011#32 = .single (.setsteps 3#8) := by decide
theorem test_decode_setexp :
    decodeFirst 0b00010100000000000000000000000010#32 = .single (.setexp 2#8) := by decide
theorem test_decode_setroot :
    decodeFirst 0b00010101000000000000000000111100#32 = .single (.setroot 60#8) := by decide
theorem test_decode_setmode :
    decodeFirst 0b00010110000000000000000000001000#32 = .single (.setmode 8#8) := by decide
theorem test_decode_setpolicy :
    decodeFirst 0b00010111000000000000000000000111#32 =
      .single (.setpolicy PolicyOperand.strongGray.imm) := by decide
theorem test_decode_getavg :
    decodeFirst 0b00100000000001010000000000000000#32 = .single (.getavg 5#4) := by decide
theorem test_decode_getmin :
    decodeFirst 0b00100001000000000000000000000000#32 = .single (.getmin 0#4) := by decide
theorem test_decode_getmax :
    decodeFirst 0b00100010000011110000000000000000#32 = .single (.getmax 15#4) := by decide
theorem test_decode_getnorm :
    decodeFirst 0b00100011000000010000000000000000#32 = .single (.getnorm 1#4) := by decide
theorem test_decode_gettouch :
    decodeFirst 0b00100100000000000000000000000000#32 = .single .gettouch := by decide
theorem test_decode_getnote :
    decodeFirst 0b00100101000000000000000000000000#32 = .single .getnote := by decide

/-- True when the word is no command whatever its operands. -/
def isIllegal (w : Word) : Bool :=
  match decodeFirst w with
  | .illegal _ => true
  | .sampleHeader => false
  | .single _ => false

/-- 95_test_vectors V61: unassigned opcodes and non-zero must-be-zero fields. -/
theorem test_decode_illegal_words :
    [0x00000000#32, 0x7F000000#32, 0xFFFFFFFF#32, 0x04000000#32, 0x18000000#32, 0x26000000#32,
      0x01000001#32, 0x02000100#32, 0x03000001#32, 0x10000106#32, 0x11100040#32, 0x11030140#32,
      0x20100000#32, 0x20000001#32, 0x24000001#32].all isIllegal = true := by decide

/-- 95_test_vectors V62: a payload word is never decoded as a command. -/
theorem test_decode_payload_is_data :
    decode 1 [0x01000000#32, 0x03000000#32] = .instr (.sample [0x03000000#32]) [] := by decide

/-- 93_implementation_defined U4, 30_encoding R90. -/
theorem test_decode_truncated : decode 2 [0x01000000#32, 0x000003E8#32] = .truncatedFrame := by decide

/-- The assembly of 95_test_vectors V60. -/
theorem test_assembly : (Instr.setthr 3#4 64#8).assembly = "SETTHR 3, 64" := by decide

/-! ### Instructions: the spec's worked examples, one step each -/

/-- The reset state with channel `k` given. -/
def withChan (k : Fin 16) (c : Channel) (s : State) : State :=
  s.mapChans fun i d => if i = k then c else d

/-- A channel of the worked examples. -/
def example0 (avg minv maxv : Nat) (dbv : Bool) (dbf : History) : Channel where
  raw := 0#32
  avg := BitVec.ofNat 32 avg
  minv := BitVec.ofNat 32 minv
  maxv := BitVec.ofNat 32 maxv
  norm := 0#8
  thr := 128#8
  dbv := dbv
  dbf := dbf

/-- Reads something of the next state, if the outcome is one. -/
def observe {α : Type} (f : State → α) : Host.Outcome State Fault Refusal → Option α
  | .next t => some (f t)
  | .fault _ => none
  | .refused _ => none

/-- The registers a `SAMPLE` writes on one channel. -/
def calibration (k : Fin 16) (s : State) : Nat × Nat × Nat × Nat × Nat :=
  (s.cnt.toNat, (s.chan k).raw.toNat, (s.chan k).avg.toNat, (s.chan k).minv.toNat, (s.chan k).maxv.toNat)

/-- The last response, as a number. -/
def lastResponse (s : State) : Option Nat := (s.responses.getLast?).map fun r => r.word.toNat

/-- The state of the worked example of 42_aggregator R160 (95_test_vectors V31). -/
def pollExample : State :=
  withChan 1 (example0 2900 1000 3000 true 0x7FFFFFFF#31)
    (withChan 0 (example0 1000 1000 3000 true 0x7FFFFFFF#31)
      { State.reset with
        nact := 2#5, touch := 3#16, lastnote := 65#8, policy := .lowBit, root := 60#7
        scale := #v[60#8, 62#8, 64#8, 65#8, 67#8, 69#8, 71#8] })

/-- 40_calibrator R110, worked example. -/
theorem test_sample_worked_example :
    observe (calibration 0) (exec (.sample [1400#32])
      (withChan 0 (example0 1000 900 1000 false 0#31) { State.reset with exp := 2#4, cnt := 7#8 })) =
      some (8, 1400, 1100, 900, 1100) := by decide

/-- 95_test_vectors V10 and V7: the automatic reset reaches an inactive channel, and a glitch in the
resetting sample is smoothed in as RAW_MAX. -/
theorem test_sample_automatic_reset :
    let s := withChan 1 (example0 1500 812 2950 false 0#31) { State.reset with cnt := 255#8 }
    observe (calibration 1) (exec (.sample [1000#32]) s) = some (0, 0, 1500, 65535, 0) ∧
    observe (calibration 0) (exec (.sample [0#32]) s) = some (0, 0, 65535, 65535, 65535) := by decide

/-- 40_calibrator R116, worked example. -/
theorem test_calrst_worked_example :
    observe (calibration 3) (exec .calrst
      (withChan 3 (example0 1500 812 2950 true 0#31) { State.reset with cnt := 77#8 })) =
      some (77, 0, 1500, 65535, 0) := by decide

/-- 95_test_vectors V31: the response, the registers and the event. -/
theorem test_poll_worked_example :
    observe (fun t => (lastResponse t, t.lastnote, t.notes)) (exec .poll pollExample) =
      some (some 0x803E0001, 62#8, [62#8]) ∧
    observe (fun t => ((t.chan 1).norm, (t.chan 1).dbv, (t.chan 1).dbf)) (exec .poll pollExample) =
      some (242#8, false, 1#31) := by decide

/-- 95_test_vectors V31, second `POLL`: edge-triggered, the cached note is answered. -/
theorem test_poll_without_change :
    observe (fun t => (lastResponse t, t.notes)) (exec .poll
      (withChan 1 (example0 2900 1000 3000 false 1#31) { pollExample with touch := 1#16, lastnote := 62#8 })) =
      some (some 0x003E0001, []) := by decide

/-- 95_test_vectors V50, V51. -/
theorem test_setn_largest : observe (fun t => t.nact.toNat) (exec (.setn 16#8) State.reset) = some 16 := by
  decide
theorem test_setn_illegal :
    observe (fun t => (t.nact, lastResponse t)) (exec (.setn 17#8) State.reset) = some (1#5, some 0) ∧
    observe (fun t => (t.nact, lastResponse t)) (exec (.setn 0#8) State.reset) = some (1#5, some 0) := by
  decide
theorem test_setthr_inactive_channel :
    observe (fun t => ((t.chan 15).thr, (t.chan 14).thr)) (exec (.setthr 15#4 255#8) State.reset) =
      some (255#8, 0#8) := by decide
theorem test_setthrall :
    observe (fun t => ((t.chan 0).thr, (t.chan 15).thr)) (exec (.setthrall 100#8) State.reset) =
      some (100#8, 100#8) := by decide
theorem test_setsteps :
    observe (fun t => t.steps) (exec (.setsteps 31#8) State.reset) = some 31#5 ∧
    observe (fun t => t.steps) (exec (.setsteps 32#8) State.reset) = some 1#5 := by decide
theorem test_setexp :
    observe (fun t => t.exp) (exec (.setexp 8#8) State.reset) = some 8#4 ∧
    observe (fun t => t.exp) (exec (.setexp 9#8) State.reset) = some 0#4 := by decide

/-- 44_config_diag R226, worked example. -/
theorem test_setroot_worked_example :
    observe (fun t => (t.root, t.scale)) (exec (.setroot 62#8) State.reset) =
      some (62#7, #v[62#8, 64#8, 66#8, 67#8, 69#8, 71#8, 73#8]) := by decide
theorem test_setroot_illegal :
    observe (fun t => t.root) (exec (.setroot 128#8) State.reset) = some 0#7 := by decide

/-- 44_config_diag R227, worked example. -/
theorem test_setmode_worked_example :
    observe (fun t => (t.mode, t.scale)) (exec (.setmode 8#8) { State.reset with root := 60#7 }) =
      some (.dorian, #v[60#8, 62#8, 63#8, 65#8, 67#8, 69#8, 70#8]) := by decide
theorem test_setmode_illegal :
    observe (fun t => t.mode) (exec (.setmode 11#8) State.reset) = some .major := by decide

/-- 44_config_diag R228, worked example; 95_test_vectors V51. -/
theorem test_setpolicy_worked_example :
    observe (fun t => (t.policy, t.sfdeleg)) (exec (.setpolicy 7#8) State.reset) = some (.strong, .gray) ∧
    observe (fun t => (t.policy, t.sfdeleg)) (exec (.setpolicy 4#8) State.reset) = some (.natural, .gray) := by
  decide
theorem test_setpolicy_illegal :
    observe (fun t => (t.policy, t.sfdeleg)) (exec (.setpolicy 8#8) State.reset) =
      some (.natural, .lowBit) := by decide

/-- 95_test_vectors V53. -/
theorem test_getavg : observe lastResponse (exec (.getavg 1#4) pollExample) = some (some 0xB54) := by decide
theorem test_getmin : observe lastResponse (exec (.getmin 1#4) pollExample) = some (some 0x3E8) := by decide
theorem test_getmax : observe lastResponse (exec (.getmax 1#4) pollExample) = some (some 0xBB8) := by decide
theorem test_getnorm :
    observe lastResponse (exec (.getnorm 1#4)
      (withChan 1 { example0 0 0 0 true 0#31 with norm := 242#8 } State.reset)) = some (some 0xF2) := by
  decide
theorem test_gettouch :
    observe lastResponse (exec .gettouch { State.reset with touch := 1#16 }) = some (some 1) := by decide
theorem test_getnote :
    observe lastResponse (exec .getnote State.reset) = some (some 255) ∧
    observe lastResponse (exec .getnote { State.reset with lastnote := 62#8 }) = some (some 62) := by decide
theorem test_getmin_inactive_channel :
    observe lastResponse (exec (.getmin 15#4) State.reset) = some (some 0xFFFF) := by decide

/-- 44_config_diag R229: with NMAX = 8 channel 8 does not exist. -/
theorem test_getmin_absent_channel :
    observe lastResponse (exec (.getmin 8#4) { State.reset with params := { referenceParams with nmax := 8 } }) =
      some (some 0) := by decide

/-! ### Functions -/

/-- 95_test_vectors V14. -/
theorem test_normalize :
    [normalized 2000 1000 3000, normalized 2999 1000 3000, normalized 1003 1000 1004,
      normalized 1001 1000 1005, normalized 1500 65535 0, normalized 3500 1000 3000,
      normalized 900 1000 3000] = [127, 254, 0, 51, 0, 255, 0] := by decide

/-- The outputs and history registers of a debouncer fed further inputs, oldest first. -/
def trace (rebase : Bool) (steps : Nat) : List Bool → Bool × History → List (Bool × Nat)
  | [], _ => []
  | x :: later, d =>
    let e := debounceStep rebase d.1 d.2 x steps
    (e.1, e.2.toNat) :: trace rebase steps later e

/-- 41_debouncer R150, first trace, and 95_test_vectors V28. -/
theorem test_debounce_traces :
    trace true 3 [true, false, false, true, true, true, false, true, false, false, false] (false, 0#31) =
      [(true, 0x7FFFFFFF), (true, 0x7FFFFFFE), (true, 0x7FFFFFFC), (true, 0x7FFFFFF9), (true, 0x7FFFFFF3),
        (true, 0x7FFFFFE7), (true, 0x7FFFFFCE), (true, 0x7FFFFF9D), (true, 0x7FFFFF3A),
        (true, 0x7FFFFE74), (false, 0x317)] ∧
    trace false 3 [true, true, true, false, true] (false, 0x7FFFFFFF#31) =
      [(false, 0x7FFFFFFE), (false, 0x7FFFFFFC), (true, 0x7FFFFFF8), (false, 0x7FFFFFF0),
        (true, 0x7FFFFFE0)] := by decide

/-- The major scale rooted at `root`. -/
def majorScale (root : BitVec 7) : Vector (BitVec 8) 7 := scaleOf referenceParams root .major

/-- 95_test_vectors V40, V41, V47. -/
theorem test_lowBit :
    [0b110010, 0b110111, 0b111111, 0b100000, 0b010000, 0b000000, 0b011111, 0xFFF0].map
      (fun m => (lowBitNote (majorScale 60#7) (BitVec.ofNat 16 m)).toNat) =
        [64, 72, 84, 59, 61, 60, 85, 60] ∧
    [0b110001, 0b100000].map (fun m => (lowBitNote (majorScale 127#7) (BitVec.ofNat 16 m)).toNat) =
      [255, 126] ∧
    (lowBitNote (majorScale 0#7) 0b100000#16).toNat = 255 := by decide

/-- 95_test_vectors V42, V43. -/
theorem test_gray :
    [0x30, 0x31, 0x32, 0x33, 0x34, 0x38, 0x3F, 0x20, 0x2F, 0x1F].map
      (fun m => (grayNote defaultGray (majorScale 60#7) (BitVec.ofNat 16 m)).toNat) =
        [60, 62, 65, 64, 72, 86, 77, 59, 76, 78] := by decide

/-- `NAT_REF` (43_decoder R197). -/
def natReference (holes pattern : Nat) : Option Nat :=
  some (holes - (((List.range holes).reverse.map fun k => pattern.testBit k).takeWhile id).length)

/-- 95_test_vectors V44, V45, with the reference table. -/
theorem test_natural :
    [0b111111, 0b111110, 0b000000, 0b001111, 0b011110, 0b101110, 0b111100, 0b110111, 0b011111].map
      (fun m => (naturalNote natReference .topRaises (majorScale 60#7) 6 (BitVec.ofNat 16 m)).toNat) =
        [60, 62, 255, 255, 50, 74, 64, 67, 48] ∧
    (naturalNote natReference .topRaises (majorScale 60#7) 2 3#16).toNat = 255 ∧
    (naturalNote natReference .topRaises (majorScale 60#7) 8 0b11000000#16).toNat = 71 := by decide

/-- 95_test_vectors V46, with the illustrative permutation. -/
theorem test_strong :
    let perm : Fin 6 → Fin 6 := fun j => if j = 0 then 2 else if j = 2 then 0 else j
    [0b110001, 0b110100, 0b110010].map (fun m =>
      (strongNote perm .lowBit defaultGray (majorScale 60#7) (BitVec.ofNat 16 m)).toNat) = [67, 62, 64] ∧
    [0b110001, 0b110101].map (fun m =>
      (strongNote perm .gray defaultGray (majorScale 60#7) (BitVec.ofNat 16 m)).toNat) = [72, 71] := by decide

/-! ### The interface -/

/-- A word of the opcode table runs as the first instruction after reset. -/
theorem test_step_runs_a_placed_word :
    decodeTableWord 32 0x10000006 = some (.setn 6#8) ∧
    observe (fun t => (t.nact.toNat, t.responses)) (step (State.reset.withFetchWord 32 0x10000006)) =
      some (6, [⟨.consumer, 0#32⟩]) := by decide

/-- 30_encoding R89: the all-zero word is ignored and answered 0 to its issuer. -/
theorem test_step_ignores_zero :
    observe (fun t => (t.producer, t.responses)) (step { State.reset with producer := [0#32, 1#32] }) =
      some ([1#32], [⟨.producer, 0#32⟩]) := by decide

/-- The race of 95_test_vectors P3: the producer presents a sample and the consumer a poll. -/
def race : State :=
  { State.reset with producer := [0x01000000#32, 3000#32], consumer := [0x03000000#32] }

/-- 95_test_vectors P3, 93_implementation_defined U12: the machine has both next states. -/
theorem test_step_either_order :
    observe (fun t => (t.cnt, t.responses.map fun r => r.agent)) (step (race.reschedule [.producer])) =
      some (1#8, [.producer]) ∧
    observe (fun t => (t.cnt, t.responses.map fun r => r.agent)) (step (race.reschedule [.consumer])) =
      some (0#8, [.consumer]) := by decide

/-- 70_reset_and_hazards R270: a pulse of RESET with no step in it resets the registers. -/
theorem test_reset_pulse :
    let t := { pollExample with cnt := 9#8 }.assertReset.releaseReset
    t.cnt = 0#8 ∧ t.touch = 0#16 ∧ t.lastnote = 255#8 ∧ (t.chan 1).avg = 0#32 ∧ t.resetPin = false := by
  decide

/-- 70_reset_and_hazards R270. -/
theorem test_step_reset :
    observe (fun t => (t.cnt, t.touch, t.lastnote, t.resetPin))
      (step { pollExample with cnt := 9#8, resetPin := true }) =
        some (0#8, 0#16, 255#8, true) := by decide

/-! ### Witnesses: for each statement with hypotheses, inputs that meet them all -/

theorem admissible_reference : Admissible referenceParams := by constructor <;> decide

/-- Admissible parameters with fewer channels than slots. -/
theorem admissible_eight : Admissible { referenceParams with nmax := 8 } := by constructor <;> decide

theorem stateInv_reset : StateInv State.reset where
  params := admissible_reference
  chans := by intro i; constructor <;> revert i <;> decide
  nact := by decide
  steps := by decide
  exp := by decide
  scale := rfl
  touch := by decide
  lastnote := by decide

/-- The state of the worked example meets the invariant. -/
theorem stateInv_pollExample : StateInv pollExample where
  params := admissible_reference
  chans := by intro i; constructor <;> revert i <;> decide
  nact := by decide
  steps := by decide
  exp := by decide
  scale := by decide
  touch := by decide
  lastnote := by decide

/-- `SetnWritesActiveCount`, at both ends of the legal range and beyond them. -/
theorem witness_setn :
    State.reset.params.nmax ≤ 16 ∧ (1 ≤ (16#8).toNat ∧ (16#8).toNat ≤ State.reset.params.nmax) ∧
      ¬ (1 ≤ (17#8).toNat ∧ (17#8).toNat ≤ State.reset.params.nmax) := by decide

/-- `SetrootWritesRootAndScale`, `SetmodeWritesModeAndScale`, `CalrstResetsEveryBound`. -/
theorem witness_scale_writes :
    Admissible State.reset.params ∧ (127#8).toNat ≤ 127 ∧ ¬ (128#8).toNat ≤ 127 ∧
      (10#8).toNat ≤ 10 ∧ ¬ (11#8).toNat ≤ 10 :=
  ⟨admissible_reference, by decide⟩

/-- `SetpolicyWritesPolicyAndDelegate`, both ends and the clause on the delegate. -/
theorem witness_setpolicy :
    (7#8).toNat ≤ 7 ∧ ¬ (8#8).toNat ≤ 7 ∧ State.reset.policy ≠ .strong := by decide

/-- `WritesAreIdempotent`: a command that the hypothesis admits, and one that it does not. -/
theorem witness_idempotent :
    let admits : Instr → Prop := fun i => match i with
      | .calrst | .setn _ | .setthr _ _ | .setthrall _ | .setsteps _ | .setexp _ | .setroot _
      | .setmode _ | .setpolicy _ => True
      | .sample _ | .poll | .getavg _ | .getmin _ | .getmax _ | .getnorm _ | .gettouch
      | .getnote => False
    admits (.setn 6#8) ∧ ¬ admits .poll := ⟨trivial, id⟩

/-- `TranspositionRoundTrip`, with the hypotheses of its last clause. -/
theorem witness_transposition :
    (67#8).toNat ≤ 127 ∧ (60#8).toNat ≤ 127 ∧
      pollExample.scale = scaleOf pollExample.params pollExample.root pollExample.mode ∧
      (60#8).toNat = pollExample.root.toNat := by decide

/-- `SampleFoldsTheFrame`: an active and an inactive channel, with and without the automatic reset. -/
theorem witness_sample :
    StateInv pollExample ∧ [1000#32, 0#32].length = pollExample.nact.toNat ∧
      (1 : Fin 16).val < pollExample.nact.toNat ∧ ¬ (2 : Fin 16).val < pollExample.nact.toNat ∧
      pollExample.cnt ≠ 255#8 :=
  ⟨stateInv_pollExample, by decide⟩

/-- `AutomaticResetPrecedesTheFold`, and `SampleFoldsTheFrame` with the automatic reset. -/
theorem witness_automatic_reset :
    StateInv { pollExample with cnt := 255#8 } ∧ [1000#32, 0#32].length = pollExample.nact.toNat :=
  ⟨⟨stateInv_pollExample.params, stateInv_pollExample.chans, stateInv_pollExample.nact,
    stateInv_pollExample.steps, stateInv_pollExample.exp, stateInv_pollExample.scale,
    stateInv_pollExample.touch, stateInv_pollExample.lastnote⟩, by decide⟩

/-- `SampleBracketsTheAverage`, its second clause by a `POLL`. -/
theorem witness_sample_brackets :
    pollExample.params.w ≤ 32 ∧ [1000#32, 0#32].length = pollExample.nact.toNat ∧
      pollExample.cnt ≠ 255#8 ∧
      (∃ t, exec .poll pollExample = .next t) ∧ Instr.poll ≠ .calrst ∧ ∀ frame, Instr.poll ≠ .sample frame :=
  ⟨by decide, by decide, by decide, ⟨_, rfl⟩, by decide, nofun⟩

/-- `BrokenFrameIsRefused`, both clauses. -/
theorem witness_broken_frame :
    [1#32].length ≠ pollExample.nact.toNat ∧
      (let s := { pollExample with producer := [0x01000000#32, 5#32] }
       s.resetPin = false ∧ s.ready .producer = false ∧ s.ready .consumer = false ∧
         s.producer ++ s.consumer ≠ []) := by decide

/-- `SmootherConverges`, from above, from below and at rest; `SmootherFitsItsWidth`. -/
theorem witness_smoother :
    1000 < 2000 ∧ (997 ≤ 1000 ∧ 1000 - 997 < 2 ^ 2) ∧ ¬ 1000 - 996 < 2 ^ 2 ∧
      8 ≤ 8 ∧ 65535 ≤ 2 ^ 16 - 1 := by decide

/-- `NormalizeLaws`, ranges 4 and 5; `NormalizeClampsUnreachable` on channel 1 of the worked example. -/
theorem witness_normalize :
    (1004 < 1000 + 5) ∧ (1000 + 5 ≤ 1005) ∧ StateInv pollExample ∧
      (pollExample.chan 1).minv.toNat + 5 ≤ (pollExample.chan 1).maxv.toNat :=
  ⟨by decide, by decide, stateInv_pollExample, by decide⟩

/-- `DebouncerFlipCondition`: a flip at the largest run length, and none. -/
theorem witness_debouncer_flip :
    (debounceStep true false 0#31 true 31).1 ≠ false ∧ (debounceStep true false 1#31 true 31).1 = false := by
  decide

/-- `DebouncerHistoryCharacterisation`, with both ends of the range of run lengths. -/
theorem witness_debouncer_history :
    ∀ p ∈ [(true, 1), (false, 31)], 1 ≤ p.2 ∧ p.2 ≤ 31 := by decide

/-- `DebouncerRunLength`: settled; the hypothesis of its second clause; a flip. -/
theorem witness_debouncer_run :
    (1#31).getLsbD 0 = true ∧
      (∀ n < 3, (debounceInputs true 3 (List.replicate n true) (false, 1#31)).1 = false) ∧
      (debounceStep true false 4#31 true 2).1 ≠ false ∧ [false].length < 2 := by decide

/-- `DebouncerFromReset`, at both ends of the range of run lengths. -/
theorem witness_debouncer_from_reset : (1 ≤ 1 ∧ 1 ≤ 31) ∧ (1 ≤ 31 ∧ 31 ≤ 31) := by decide

/-- `RaisingStepsCausesNoFlip`. -/
theorem witness_raising_steps : 1 ≤ 3 ∧ 3 ≤ 5 ∧ 5 ≤ 31 ∧ (debounceStep true false 16#31 true 5).1 ≠ false := by
  decide

/-- `PollReportsChange`: a poll that changes the mask, and one that does not. -/
theorem witness_poll_reports :
    observe (fun t => t.touch) (exec .poll pollExample) ≠ some pollExample.touch ∧
      observe (fun t => t.touch) (exec .poll { pollExample with touch := 1#16 }) = some 1#16 := by decide

/-- `FirstPollOpensEveryPad`, `ResetStateAsStated`, `LaunchMeetsTheInvariant`, with 8 channels. -/
theorem witness_launch : Admissible { referenceParams with nmax := 8 } := admissible_eight

/-- `PollAfterCalrstReadsOpen`. -/
theorem witness_poll_after_calrst :
    Admissible pollExample.params ∧ pollExample.nact.toNat ≤ pollExample.params.nmax :=
  ⟨admissible_reference, by decide⟩

/-- `InactiveChannelsDoNotInfluencePoll`, with two different states. -/
theorem witness_inactive_channels :
    let s := withChan 5 (example0 7 7 7 true 3#31) pollExample
    AgreeOnActive pollExample s ∧ pollExample ≠ s := by
  refine ⟨⟨rfl, by decide⟩, by decide⟩

/-- `LowBitReadsTheBits`, second clause; `SixBitPoliciesIgnoreUpperBits`, with two different masks. -/
theorem witness_masks :
    (0x17#16).toNat % 16 = 7 ∧ (0xFFF0#16).toNat % 64 = (0x30#16).toNat % 64 ∧ 0xFFF0#16 ≠ 0x30#16 := by
  decide

/-- `NaturalReadsTheBits`, second clause, and each case of the first. -/
theorem witness_natural :
    let s := { pollExample with nact := 6#5, policy := .natural }
    StateInv s ∧ s.policy = .natural ∧ s.nact = 6#5 ∧ s.root = 60#7 ∧ s.mode = .major ∧
      natReference 4 0b1111 = some 0 :=
  ⟨⟨stateInv_pollExample.params, stateInv_pollExample.chans, by decide, stateInv_pollExample.steps,
    stateInv_pollExample.exp, stateInv_pollExample.scale, stateInv_pollExample.touch,
    stateInv_pollExample.lastnote⟩, rfl, rfl, rfl, rfl, by decide⟩

/-- `DecodeEncodeAgree`, for a frame and at the largest operands. -/
theorem witness_decode_encode :
    wellFormed 16 2 (.sample [1#32, 2#32]) = true ∧ wellFormed 16 2 (.setthr 15#4 255#8) = true := by decide

/-- `DecoderIsTheOpcodeMap`: a word of a row and a word of none; `IllegalCommandsAreIgnored`, first clause. -/
theorem witness_opcode_map :
    (∃ r ∈ opcodeMap, r.Matches 0x11030040#32) ∧ ∀ r ∈ opcodeMap, ¬ r.Matches 0x11100040#32 := by decide

/-- `StepRunsTheDecodedCommand`, `EveryCommandIsAnswered`. -/
theorem witness_serves :
    let s := { pollExample with producer := [0x10000006#32, 0x03000000#32] }
    Serves s .producer (.instr (.setn 6#8) [0x03000000#32]) := by decide

/-- `IllegalCommandsAreIgnored`, second and third clause. -/
theorem witness_illegal :
    let s := { pollExample with consumer := [0x7F000000#32, 0x03000000#32] }
    Serves s .consumer (.illegal (.unassignedOp 0x7F#8) [0x03000000#32]) ∧
      wellFormed s.params.nmax s.nact.toNat (.setn 0#8) = false := by decide

/-- `OnlyAChangingPollEmits`, `AgentStreamsKeepTheirOrder`, `StepKeepsTheInvariant`,
`ParametersNeverChange`: a step from a state of the invariant that emits a note. -/
theorem witness_step :
    let s := { pollExample with consumer := [0x03000000#32] }
    StateInv s ∧ observe (fun t => t.notes) (step s) = some [62#8] :=
  ⟨⟨stateInv_pollExample.params, stateInv_pollExample.chans, stateInv_pollExample.nact,
    stateInv_pollExample.steps, stateInv_pollExample.exp, stateInv_pollExample.scale,
    stateInv_pollExample.touch, stateInv_pollExample.lastnote⟩, by decide⟩

/-- `RegistersChangeOnlyByTheirWriters`: every command with an effect completes on the worked example. -/
theorem witness_exec :
    ([Instr.sample [1#32, 2#32], .calrst, .poll, .setn 6#8, .setthr 1#4 2#8, .setthrall 3#8, .setsteps 4#8,
      .setexp 5#8, .setroot 6#8, .setmode 7#8, .setpolicy 1#8].all fun i =>
        (observe (fun _ => ()) (exec i pollExample)).isSome) = true := by decide

/-- `RawIsUnobservable`, with two different states. -/
theorem witness_raw :
    let s := withChan 0 { pollExample.chan 0 with raw := 9#32 } pollExample
    AgreeButRaw pollExample s ∧ pollExample ≠ s ∧ ∃ t, exec .poll pollExample = .next t :=
  ⟨⟨rfl, by decide⟩, by decide, ⟨_, rfl⟩⟩

/-- `ReadyAgentsAreServed`: one agent ready, both ready, none presenting. -/
theorem witness_agents :
    let s := { pollExample with producer := [0x02000000#32] }
    let u := { s with consumer := [0x03000000#32] }
    (s.ready .producer = true ∧ s.ready .consumer = false) ∧
      (u.resetPin = false ∧ u.decoded .producer = .instr .calrst [] ∧ u.decoded .consumer = .instr .poll []) ∧
      (State.reset.resetPin = false ∧ State.reset.producer = [] ∧ State.reset.consumer = []) := by decide

/-- `EitherAgentMayBeServed`: both agents present a command, or an illegal word, and a next state exists. -/
theorem witness_either_agent :
    race.resetPin = false ∧ race.decoded .producer = .instr (.sample [3000#32]) [] ∧
      race.decoded .consumer = .instr .poll [] ∧
      { race with producer := [0#32] }.decoded .producer = .illegal (.unassignedOp 0#8) [] ∧
      (observe (fun _ => ()) (step (race.reschedule [.producer]))).isSome = true := by decide

/-- `AssertedResetResetsEveryRegister`, `InputsKeepTheInvariant`, and both clauses of
`ReleasedResetLeavesTheResetState`. -/
theorem witness_reset :
    pollExample.assertReset.resetPin = true ∧ { pollExample with resetPin := true }.resetPin = true ∧
      pollExample.resetPin = false ∧ StateInv pollExample :=
  ⟨rfl, rfl, rfl, stateInv_pollExample⟩

end Sys2Proof.Tests
end

/-! PROOF. The decoder against the printed opcode map, and the words of format C (30_encoding R80 to R89). -/

namespace Sys2Proof

open Sys2Proof.Machine

/-! ### The fields of a word of format C -/

@[simp] theorem opField_encodeC (op : BitVec 8) (ch : BitVec 4) : opField (encodeC op ch) = op :=
  calc opField (encodeC op ch)
      _ = (op ++ 0#4 ++ ch).extractLsb' 8 8 := BitVec.extractLsb'_append_eq_of_le (by decide)
      _ = (op ++ 0#4).extractLsb' 4 8 := BitVec.extractLsb'_append_eq_of_le (by decide)
      _ = op := BitVec.extractLsb'_append_eq_left

@[simp] theorem chField_encodeC (op : BitVec 8) (ch : BitVec 4) : chField (encodeC op ch) = ch :=
  calc chField (encodeC op ch)
      _ = (op ++ 0#4 ++ ch).extractLsb' 0 4 := BitVec.extractLsb'_append_eq_of_le (by decide)
      _ = ch := BitVec.extractLsb'_append_eq_right

/-- Bits 23:20 of a word of format C. -/
theorem highReserved_encodeC (op : BitVec 8) (ch : BitVec 4) :
    (encodeC op ch).extractLsb' 20 4 = 0#4 :=
  calc (encodeC op ch).extractLsb' 20 4
      _ = (op ++ 0#4 ++ ch).extractLsb' 4 4 := BitVec.extractLsb'_append_eq_of_le (by decide)
      _ = (op ++ 0#4).extractLsb' 0 4 := BitVec.extractLsb'_append_eq_of_le (by decide)
      _ = 0#4 := BitVec.extractLsb'_append_eq_right

/-- Bits 15:0 of a word of format C. -/
theorem lowReserved_encodeC (op : BitVec 8) (ch : BitVec 4) :
    (encodeC op ch).extractLsb' 0 16 = 0#16 :=
  BitVec.extractLsb'_append_eq_right

@[simp] theorem decodeC_encodeC (op : BitVec 8) (ch : BitVec 4) (is : BitVec 4 → Instr) :
    decodeC (encodeC op ch) is = .single (is ch) := by
  simp [decodeC, highReserved_encodeC, lowReserved_encodeC]

theorem decodeFirst_getavg (ch : BitVec 4) :
    decodeFirst (encodeC 0x20#8 ch) = .single (.getavg ch) := by
  simp [decodeFirst]

theorem decodeFirst_getmin (ch : BitVec 4) :
    decodeFirst (encodeC 0x21#8 ch) = .single (.getmin ch) := by
  simp [decodeFirst]

theorem decodeFirst_getmax (ch : BitVec 4) :
    decodeFirst (encodeC 0x22#8 ch) = .single (.getmax ch) := by
  simp [decodeFirst]

theorem decodeFirst_getnorm (ch : BitVec 4) :
    decodeFirst (encodeC 0x23#8 ch) = .single (.getnorm ch) := by
  simp [decodeFirst]

/-! ### A word with its reserved bits clear matches its row

The row's pattern is the opcode in bits 31:24 and 0 below; the row's mask clears the operand fields. -/

theorem and_maskZ {w : Word} (h : w.extractLsb' 0 24 = 0#24) :
    w &&& 0xFFFFFFFF#32 = (opField w).setWidth 32 <<< 24 := by
  have split : w &&& 0xFFFFFFFF#32 =
      (opField w).setWidth 32 <<< 24 ||| (w.extractLsb' 0 24).setWidth 32 := by
    ext i hi; interval_cases i <;> simp [opField]
  simpa [h] using split

theorem and_maskI {w : Word} (h : w.extractLsb' 8 16 = 0#16) :
    w &&& 0xFFFFFF00#32 = (opField w).setWidth 32 <<< 24 := by
  have split : w &&& 0xFFFFFF00#32 =
      (opField w).setWidth 32 <<< 24 ||| (w.extractLsb' 8 16).setWidth 32 <<< 8 := by
    ext i hi; interval_cases i <;> simp [opField]
  simpa [h] using split

theorem and_maskC {w : Word} (hhi : w.extractLsb' 20 4 = 0#4) (hlo : w.extractLsb' 0 16 = 0#16) :
    w &&& 0xFFF0FFFF#32 = (opField w).setWidth 32 <<< 24 := by
  have split : w &&& 0xFFF0FFFF#32 = (opField w).setWidth 32 <<< 24 |||
      (w.extractLsb' 20 4).setWidth 32 <<< 20 ||| (w.extractLsb' 0 16).setWidth 32 := by
    ext i hi; interval_cases i <;> simp [opField]
  simpa [hhi, hlo] using split

theorem and_maskCI {w : Word} (hhi : w.extractLsb' 20 4 = 0#4) (hlo : w.extractLsb' 8 8 = 0#8) :
    w &&& 0xFFF0FF00#32 = (opField w).setWidth 32 <<< 24 := by
  have split : w &&& 0xFFF0FF00#32 = (opField w).setWidth 32 <<< 24 |||
      (w.extractLsb' 20 4).setWidth 32 <<< 20 ||| (w.extractLsb' 8 8).setWidth 32 <<< 8 := by
    ext i hi; interval_cases i <;> simp [opField]
  simpa [hhi, hlo] using split

/-! ### Each format's decoder: illegal, or the row's operation on a word that matches the row -/

section
variable {w : Word} {op : BitVec 8}

theorem decodeZ_cases (is : FirstWord) (hop : opField w = op) :
    (∃ why, decodeZ w is = .illegal why) ∨
      (w &&& 0xFFFFFFFF#32 = op.setWidth 32 <<< 24 ∧ decodeZ w is = is) := by
  unfold decodeZ
  split
  next h => exact .inr ⟨hop ▸ and_maskZ h, rfl⟩
  next => exact .inl ⟨_, rfl⟩

theorem decodeI_cases (is : BitVec 8 → Instr) (hop : opField w = op) :
    (∃ why, decodeI w is = .illegal why) ∨
      (w &&& 0xFFFFFF00#32 = op.setWidth 32 <<< 24 ∧ decodeI w is = .single (is (immField w))) := by
  unfold decodeI
  split
  next h => exact .inr ⟨hop ▸ and_maskI h, rfl⟩
  next => exact .inl ⟨_, rfl⟩

theorem decodeC_cases (is : BitVec 4 → Instr) (hop : opField w = op) :
    (∃ why, decodeC w is = .illegal why) ∨
      (w &&& 0xFFF0FFFF#32 = op.setWidth 32 <<< 24 ∧ decodeC w is = .single (is (chField w))) := by
  unfold decodeC
  split
  next h => exact .inr ⟨hop ▸ and_maskC h.1 h.2, rfl⟩
  next => exact .inl ⟨_, rfl⟩

theorem decodeCI_cases (is : BitVec 4 → BitVec 8 → Instr) (hop : opField w = op) :
    (∃ why, decodeCI w is = .illegal why) ∨
      (w &&& 0xFFF0FF00#32 = op.setWidth 32 <<< 24 ∧
        decodeCI w is = .single (is (chField w) (immField w))) := by
  unfold decodeCI
  split
  next h => exact .inr ⟨hop ▸ and_maskCI h.1 h.2, rfl⟩
  next => exact .inl ⟨_, rfl⟩

end

/-- What a first word can say: nothing legal, or the operation of a row of the opcode map that it matches. -/
theorem decodeFirst_cases (w : Word) :
    (∃ why, decodeFirst w = .illegal why) ∨
      ∃ r ∈ opcodeMap, r.Matches w ∧ decodeFirst w = r.is w := by
  have row (k : Fin 17) {d : FirstWord}
      (h : (∃ why, d = .illegal why) ∨ (opcodeMap.get k).Matches w ∧ d = (opcodeMap.get k).is w) :
      (∃ why, d = .illegal why) ∨ ∃ r ∈ opcodeMap, r.Matches w ∧ d = r.is w :=
    h.imp_right fun h => ⟨_, List.get_mem opcodeMap k, h⟩
  have op {n : BitVec 8} (h : (opField w).toNat = n.toNat) : opField w = n := BitVec.eq_of_toNat_eq h
  unfold decodeFirst
  split
  next h => exact row 0 (decodeZ_cases (op := 0x01#8) _ (op h))
  next h => exact row 1 (decodeZ_cases (op := 0x02#8) _ (op h))
  next h => exact row 2 (decodeZ_cases (op := 0x03#8) _ (op h))
  next h => exact row 3 (decodeI_cases (op := 0x10#8) _ (op h))
  next h => exact row 4 (decodeCI_cases (op := 0x11#8) _ (op h))
  next h => exact row 5 (decodeI_cases (op := 0x12#8) _ (op h))
  next h => exact row 6 (decodeI_cases (op := 0x13#8) _ (op h))
  next h => exact row 7 (decodeI_cases (op := 0x14#8) _ (op h))
  next h => exact row 8 (decodeI_cases (op := 0x15#8) _ (op h))
  next h => exact row 9 (decodeI_cases (op := 0x16#8) _ (op h))
  next h => exact row 10 (decodeI_cases (op := 0x17#8) _ (op h))
  next h => exact row 11 (decodeC_cases (op := 0x20#8) _ (op h))
  next h => exact row 12 (decodeC_cases (op := 0x21#8) _ (op h))
  next h => exact row 13 (decodeC_cases (op := 0x22#8) _ (op h))
  next h => exact row 14 (decodeC_cases (op := 0x23#8) _ (op h))
  next h => exact row 15 (decodeZ_cases (op := 0x24#8) _ (op h))
  next h => exact row 16 (decodeZ_cases (op := 0x25#8) _ (op h))
  next => exact .inl ⟨_, rfl⟩

/-! ### Cutting a command off a stream -/

/-- A word of no row is one illegal word; what follows it stays in the stream. -/
theorem decode_of_no_row (nact : Nat) {w : Word} (rest : List Word)
    (h : ∀ r ∈ opcodeMap, ¬ r.Matches w) : ∃ why, decode nact (w :: rest) = .illegal why rest := by
  obtain ⟨why, hw⟩ | ⟨r, hr, hm, -⟩ := decodeFirst_cases w
  · exact ⟨why, by simp [decode, hw]⟩
  · exact absurd hm (h r hr)

/-- An illegal command consumes one word. -/
theorem words_of_decode_illegal {nact : Nat} {ws rest : List Word} {why : IllegalWord}
    (h : decode nact ws = .illegal why rest) : ∃ w, ws = w :: rest := by
  cases ws with
  | nil => cases h
  | cons w tail =>
    unfold decode at h
    cases hw : decodeFirst w with
    | illegal why' => simp only [hw] at h; cases h; exact ⟨w, rfl⟩
    | single i => simp only [hw] at h; cases h
    | sampleHeader => simp only [hw] at h; split at h <;> cases h

/-- Only a header begins a `SAMPLE`: no word alone is one. -/
theorem decodeFirst_ne_sample (w : Word) (frame : List Word) :
    decodeFirst w ≠ .single (.sample frame) := by
  obtain ⟨why, hw⟩ | ⟨r, hr, -, hw⟩ := decodeFirst_cases w
  · simp [hw]
  · have rows : ∀ r ∈ opcodeMap, r.is w ≠ .single (.sample frame) := by simp [opcodeMap]
    exact hw ▸ rows r hr

/-- A frame that the decoder delivers is a whole one (30_encoding R85). -/
theorem length_of_decode_sample {nact : Nat} {ws frame rest : List Word}
    (h : decode nact ws = .instr (.sample frame) rest) : frame.length = nact := by
  cases ws with
  | nil => cases h
  | cons w tail =>
    unfold decode at h
    cases hw : decodeFirst w with
    | illegal why => simp only [hw] at h; cases h
    | single i =>
      simp only [hw] at h
      cases h
      exact absurd hw (decodeFirst_ne_sample w frame)
    | sampleHeader =>
      simp only [hw] at h
      split at h
      next => cases h
      next hlen => cases h; simp; omega

end Sys2Proof

/-! PROOF. What each command answers: the reads, the commands with an illegal operand, and all others
(30_encoding R89, R96, 44_config_diag R220, R229). -/

namespace Sys2Proof.Machine

/-! ### The reads (44_config_diag R230 to R235) -/

/-- The response of a read of channel `ch`: the register if the channel exists, else 0 (44_config_diag
R229). -/
def State.channelAnswer (s : State) (ch : BitVec 4) (value : Word) : Word :=
  if ch.toNat < s.params.nmax then value else 0#32

section
variable (ch : BitVec 4) (s : State)

theorem answer_legalChannel (value : Word) :
    s.answer (legalChannel s.params ch) value = s.respond (s.channelAnswer ch value) := by
  simp [answer_eq, legalChannel, State.channelAnswer]

theorem exec_getavg :
    exec (.getavg ch) s = .next (s.respond (s.channelAnswer ch (s.chan ch.toFin).avg)) :=
  congrArg _ (answer_legalChannel ch s _)

theorem exec_getmin :
    exec (.getmin ch) s = .next (s.respond (s.channelAnswer ch (s.chan ch.toFin).minv)) :=
  congrArg _ (answer_legalChannel ch s _)

theorem exec_getmax :
    exec (.getmax ch) s = .next (s.respond (s.channelAnswer ch (s.chan ch.toFin).maxv)) :=
  congrArg _ (answer_legalChannel ch s _)

theorem exec_getnorm :
    exec (.getnorm ch) s =
      .next (s.respond (s.channelAnswer ch (BitVec.ofNat 32 (s.chan ch.toFin).norm.toNat))) := by
  rw [BitVec.ofNat_toNat]
  exact congrArg _ (answer_legalChannel ch s _)

theorem exec_gettouch :
    exec .gettouch s = .next (s.respond (BitVec.ofNat 32 s.touch.toNat)) := by
  rw [BitVec.ofNat_toNat]
  rfl

theorem exec_getnote :
    exec .getnote s = .next (s.respond (BitVec.ofNat 32 s.lastnote.toNat)) := by
  rw [BitVec.ofNat_toNat]
  rfl

end

/-! ### Commands with an illegal operand -/

theorem commit_of_illegal {legal : Bool} (h : legal = false) (written s : State) :
    s.commit legal written = s.respond 0#32 := by
  subst h; rfl

theorem answer_of_illegal {legal : Bool} (h : legal = false) (value : Word) (s : State) :
    s.answer legal value = s.respond 0#32 := by
  subst h; rfl

theorem modeOfNumber_of_gt {n : Nat} (h : 10 < n) : modeOfNumber n = none := by
  obtain ⟨k, rfl⟩ : ∃ k, n = k + 11 := ⟨n - 11, by omega⟩
  rfl

/-- A command whose operand fails its row's legality test is ignored, with the response 0 (30_encoding
R89). A frame of a wrong length is no command. -/
theorem exec_of_not_wellFormed {i : Instr} {s : State} (hi : ∀ frame, i ≠ .sample frame)
    (h : wellFormed s.params.nmax s.nact.toNat i = false) : exec i s = .next (s.respond 0#32) := by
  cases i with
  | sample frame => exact absurd rfl (hi frame)
  | calrst | poll | setthrall | gettouch | getnote => cases h
  | setn | setthr | setsteps | setexp | setroot | setpolicy =>
    exact congrArg _ (commit_of_illegal h _ s)
  | setmode imm =>
    have hgt : 10 < imm.toNat := by simpa [wellFormed] using h
    simp [exec, execSetmode, modeOfNumber_of_gt hgt, commit_of_illegal]
  | getavg | getmin | getmax | getnorm => exact congrArg _ (answer_of_illegal h _ s)

/-! ### Every command that completes responds once -/

/-- The commands whose response carries a value (30_encoding R96). -/
def asks : Instr → Bool
  | .poll | .getavg _ | .getmin _ | .getmax _ | .getnorm _ | .gettouch | .getnote => true
  | .sample _ | .calrst | .setn _ | .setthr _ _ | .setthrall _ | .setsteps _ | .setexp _
  | .setroot _ | .setmode _ | .setpolicy _ => false

/-- `i` completes in `s` and its one response is `w`. -/
def Answers (i : Instr) (s : State) (w : Word) : Prop :=
  ∃ t : State, exec i s = .next t ∧ t.responses = s.answered w

theorem answers_of_respond {i : Instr} {s u : State} {w : Word} (h : exec i s = .next (u.respond w))
    (hr : u.responses = s.responses) (hi : u.issuer = s.issuer) : Answers i s w :=
  ⟨_, h, by simp [hr, hi]⟩

theorem answers_of_commit {i : Instr} {s written : State} {legal : Bool}
    (h : exec i s = .next (s.commit legal written)) (hr : written.responses = s.responses)
    (hi : written.issuer = s.issuer) : Answers i s 0#32 := by
  obtain ⟨-, hc⟩ | ⟨-, hc⟩ := commit_cases legal written s
  · exact answers_of_respond (hc ▸ h) hr hi
  · exact answers_of_respond (hc ▸ h) rfl rfl

theorem answers_poll (s : State) : ∃ w, Answers .poll s w := by
  by_cases hc : maskChanged s.pollChannels.freshMask s.touch = true
  · exact ⟨_, answers_of_respond (u := s.pollChannels.latchMask s.pollChannels.freshMask)
      (by simp only [exec, execPoll, hc, if_true]; rfl) rfl rfl⟩
  · exact ⟨_, answers_of_respond (u := s.pollChannels)
      (by simp only [exec, execPoll, hc]; rfl) rfl rfl⟩

theorem answers_setmode (imm : BitVec 8) (s : State) : Answers (.setmode imm) s 0#32 := by
  cases h : modeOfNumber imm.toNat with
  | none =>
    exact answers_of_commit (written := s) (legal := false)
      (by simp only [exec, execSetmode, h]) rfl rfl
  | some m =>
    exact answers_of_commit (legal := true)
      (written := { s with mode := m, scale := scaleOf s.params s.root m })
      (by simp only [exec, execSetmode, h]) rfl rfl

/-- A command with legal operands completes with one response, 0 unless it asks for a value (30_encoding
R96). -/
theorem exec_answers {i : Instr} {s : State} (h : wellFormed s.params.nmax s.nact.toNat i = true) :
    ∃ w, Answers i s w ∧ (asks i = false → w = 0#32) := by
  cases i with
  | sample frame =>
    have hlen : frame.length = s.nact.toNat := of_decide_eq_true h
    exact ⟨_, answers_of_respond (u := s.countSample.foldFrame frame) (if_pos hlen) (by simp) (by simp),
      fun _ => rfl⟩
  | calrst => exact ⟨_, answers_of_respond (u := s.resetBounds) rfl rfl rfl, fun _ => rfl⟩
  | setn | setthr | setthrall | setsteps | setexp | setroot | setpolicy =>
    exact ⟨_, answers_of_commit rfl rfl rfl, fun _ => rfl⟩
  | setmode imm => exact ⟨_, answers_setmode imm s, fun _ => rfl⟩
  | poll => obtain ⟨w, hw⟩ := answers_poll s; exact ⟨w, hw, nofun⟩
  | getavg ch => exact ⟨_, answers_of_respond (exec_getavg ch s) rfl rfl, nofun⟩
  | getmin ch => exact ⟨_, answers_of_respond (exec_getmin ch s) rfl rfl, nofun⟩
  | getmax ch => exact ⟨_, answers_of_respond (exec_getmax ch s) rfl rfl, nofun⟩
  | getnorm ch => exact ⟨_, answers_of_respond (exec_getnorm ch s) rfl rfl, nofun⟩
  | gettouch => exact ⟨_, answers_of_respond (exec_gettouch s) rfl rfl, nofun⟩
  | getnote => exact ⟨_, answers_of_respond (exec_getnote s) rfl rfl, nofun⟩

end Sys2Proof.Machine

/-! PROOF. The step of a state in which an agent is served (20_memory R66, 30_encoding R89, R90). -/

namespace Sys2Proof.Machine

section
variable {s : State} {a : Agent} {rest : List Word}

theorem step_of_serves_instr {i : Instr} (h : Serves s a (.instr i rest)) :
    step s = exec i (s.take a rest) := by
  obtain ⟨hreset, hsel, hdec⟩ := h
  simp [step, State.fetch, hreset, hsel, hdec]

theorem step_of_serves_illegal {why : IllegalWord} (h : Serves s a (.illegal why rest)) :
    step s = .next (s.take a rest).ignore := by
  obtain ⟨hreset, hsel, hdec⟩ := h
  simp [step, State.fetch, hreset, hsel, hdec]

/-- A selected agent presents a whole command or an illegal word. -/
theorem serves_of_selected (hreset : s.resetPin = false) (hsel : s.selected = some a) :
    (∃ i rest, Serves s a (.instr i rest)) ∨ ∃ why rest, Serves s a (.illegal why rest) := by
  have hready := selected_ready hsel
  unfold State.ready at hready
  cases hdec : s.decoded a with
  | instr i rest => exact .inl ⟨i, rest, hreset, hsel, hdec⟩
  | illegal why rest => exact .inr ⟨why, rest, hreset, hsel, hdec⟩
  | noWords | truncatedFrame => rw [hdec] at hready; cases hready

/-- Serving and ignoring touch the interface only. -/
theorem sameRegisters_take_ignore (s : State) (a : Agent) (rest : List Word) :
    SameRegisters s (s.take a rest).ignore := by
  cases a <;> rfl

/-- Once a command is served, the response goes to its issuer (30_encoding R96). -/
theorem answered_take (s : State) (a : Agent) (rest : List Word) (w : Word) :
    (s.take a rest).answered w = s.responses ++ [⟨a, w⟩] := by
  simp

/-- A served command completes with one response, 0 if it is ill-formed or asks for no value. -/
theorem exec_served_answers {i : Instr} (h : Serves s a (.instr i rest)) :
    ∃ w, Answers i (s.take a rest) w ∧
      (wellFormed s.params.nmax s.nact.toNat i = false ∨ asks i = false → w = 0#32) := by
  cases hwf : wellFormed s.params.nmax s.nact.toNat i with
  | true =>
    obtain ⟨w, hw, hzero⟩ := exec_answers (s := s.take a rest) (by simpa using hwf)
    exact ⟨w, hw, fun h => hzero (h.resolve_left nofun)⟩
  | false =>
    have hframe : ∀ frame, i ≠ .sample frame := by
      rintro frame rfl
      obtain ⟨-, -, hdec⟩ := h
      have hlen : frame.length = s.nact.toNat := length_of_decode_sample hdec
      simp [wellFormed, hlen] at hwf
    exact ⟨0#32, answers_of_respond (exec_of_not_wellFormed hframe (by simpa using hwf)) rfl rfl,
      fun _ => rfl⟩

end

end Sys2Proof.Machine

/-! PROOF. The obligations of the family 30_encoding. -/

namespace Sys2Proof.Machine

/-- Settles O11, read by read: its word, and its meaning. -/
theorem readsAnswerTheRegister : Obligations.ReadsAnswerTheRegister := by
  refine ⟨fun s ch => ⟨?getavg, ?getmin, ?getmax, ?getnorm⟩, fun s => ⟨?gettouch, ?getnote⟩⟩
  case getavg => exact ⟨decodeFirst_getavg ch, exec_getavg ch s⟩
  case getmin => exact ⟨decodeFirst_getmin ch, exec_getmin ch s⟩
  case getmax => exact ⟨decodeFirst_getmax ch, exec_getmax ch s⟩
  case getnorm => exact ⟨decodeFirst_getnorm ch, exec_getnorm ch s⟩
  case gettouch => exact ⟨by decide, exec_gettouch s⟩
  case getnote => exact ⟨by decide, exec_getnote s⟩

/-- Settles O45, clause by clause: the word of no row, the step on an illegal word, the illegal operand, and
the all-zero word. -/
theorem illegalCommandsAreIgnored : Obligations.IllegalCommandsAreIgnored := by
  refine ⟨fun nact _ rest => decode_of_no_row nact rest, fun s a why rest h => ?_,
    fun i s => exec_of_not_wellFormed, by decide⟩
  have ⟨_, _, hdec⟩ := h
  exact ⟨words_of_decode_illegal hdec, _, step_of_serves_illegal h, sameRegisters_take_ignore s a rest,
    take_words a rest s, take_notes a rest s, answered_take s a rest 0#32⟩

/-- Settles O46: an illegal word is ignored with the response 0, and a command is answered by its meaning. -/
theorem everyCommandIsAnswered : Obligations.EveryCommandIsAnswered := by
  intro s a hreset hsel
  obtain ⟨i, rest, h⟩ | ⟨why, rest, h⟩ := serves_of_selected hreset hsel
  · obtain ⟨w, ⟨t, hexec, hresp⟩, hzero⟩ := exec_served_answers h
    refine ⟨t, w, (step_of_serves_instr h).trans hexec,
      hresp.trans (answered_take s a rest w), fun hcase => hzero ?_⟩
    obtain ⟨-, -, hdec⟩ := h
    have hi := hcase i rest hdec
    cases i with
    | sample | calrst | setn | setthr | setthrall | setsteps | setexp | setroot | setmode | setpolicy =>
      exact .inr rfl
    | poll | getavg | getmin | getmax | getnorm | gettouch | getnote => exact .inl hi
  · exact ⟨_, 0#32, step_of_serves_illegal h, answered_take s a rest 0#32, fun _ => rfl⟩

end Sys2Proof.Machine

/-! PROOF. The smoother: its laws in one comparison, its bounds and its convergence (40_calibrator R114, R119,
R120). -/

namespace Sys2Proof.Machine

section
variable {e avg val : Nat}

/-- The floor division of the smoother in one comparison, with no subtraction: all its laws follow from it. -/
theorem le_smooth_iff {k : Nat} : k ≤ smooth e avg val ↔ 2 ^ e * k + avg ≤ 2 ^ e * avg + val := by
  have hpos : 0 < 2 ^ e := Nat.two_pow_pos e
  have hsum : (2 ^ e - 1) * avg + avg = 2 ^ e * avg := by
    rw [← Nat.succ_mul, Nat.succ_eq_add_one, Nat.sub_add_cancel hpos]
  rw [smooth, Nat.le_div_iff_mul_le hpos, Nat.mul_comm k]
  omega

theorem smooth_lt_iff {k : Nat} : smooth e avg val < k ↔ 2 ^ e * avg + val < 2 ^ e * k + avg := by
  simpa only [not_le] using (le_smooth_iff (k := k)).not

/-! ### The smoothed value lies between the average and the input -/

theorem val_le_smooth (h : val ≤ avg) : val ≤ smooth e avg val := by
  obtain ⟨d, rfl⟩ := Nat.exists_eq_add_of_le h
  have hd : d ≤ 2 ^ e * d := Nat.le_mul_of_pos_left d (Nat.two_pow_pos e)
  rw [le_smooth_iff, Nat.mul_add]
  omega

theorem avg_le_smooth (h : avg ≤ val) : avg ≤ smooth e avg val := by
  rw [le_smooth_iff]
  omega

/-- A smoothed value needs no more room than the average and the input. -/
theorem smooth_le {m : Nat} (havg : avg ≤ m) (hval : val ≤ m) : smooth e avg val ≤ m := by
  obtain ⟨d, rfl⟩ := Nat.exists_eq_add_of_le havg
  have hd : d ≤ 2 ^ e * d := Nat.le_mul_of_pos_left d (Nat.two_pow_pos e)
  rw [← Nat.lt_succ_iff, smooth_lt_iff, Nat.succ_eq_add_one, Nat.mul_add, Nat.mul_add]
  have hpos : 0 < 2 ^ e := Nat.two_pow_pos e
  omega

/-! ### Convergence under a constant input -/

theorem smooth_lt_avg (h : val < avg) : smooth e avg val < avg := by
  rw [smooth_lt_iff]
  omega

theorem smooth_eq_avg_iff : smooth e avg val = avg ↔ avg ≤ val ∧ val - avg < 2 ^ e := by
  have hlow : avg ≤ smooth e avg val ↔ avg ≤ val := by rw [le_smooth_iff]; omega
  have hhigh : smooth e avg val < avg + 1 ↔ val < 2 ^ e + avg := by
    rw [smooth_lt_iff, Nat.mul_add]; omega
  omega

/-- The first of `n + 1` steps, taken out in front. -/
theorem smoothRepeat_succ (e val n avg : Nat) :
    smoothRepeat e val (n + 1) avg = smoothRepeat e val n (smooth e avg val) := by
  induction n with
  | zero => rfl
  | succ n ih => exact congrArg (smooth e · val) ih

/-- From above the average strictly falls until it is the input. -/
theorem smoothRepeat_reaches (e val avg : Nat) (h : val ≤ avg) : ∃ n, smoothRepeat e val n avg = val := by
  induction avg using Nat.strong_induction_on with
  | _ avg ih =>
    obtain rfl | hlt := h.eq_or_lt
    · exact ⟨0, rfl⟩
    · obtain ⟨n, hn⟩ := ih (smooth e avg val) (smooth_lt_avg hlt) (val_le_smooth h)
      exact ⟨n + 1, (smoothRepeat_succ e val n avg).trans hn⟩

end

/-- Settles O18: above the input the average falls to it, below it the average never falls and never passes
it. -/
theorem smootherConverges : Obligations.SmootherConverges := fun e avg val =>
  ⟨fun h => ⟨val_le_smooth h.le, smooth_lt_avg h, smoothRepeat_reaches e val avg h.le⟩,
    fun h => ⟨avg_le_smooth h, smooth_le h le_rfl⟩, smooth_eq_avg_iff⟩

/-- Settles O19: 2^e times the largest W-bit value bounds the product-sum, and that value the quotient. -/
theorem smootherFitsItsWidth : Obligations.SmootherFitsItsWidth := by
  intro w e avg val he havg hval
  have hsum : (2 ^ e - 1) * avg + val ≤ 2 ^ 8 * (2 ^ w - 1) :=
    calc (2 ^ e - 1) * avg + val
      _ ≤ (2 ^ e - 1) * (2 ^ w - 1) + (2 ^ w - 1) := by gcongr
      _ = 2 ^ e * (2 ^ w - 1) := by
        rw [← Nat.succ_mul, Nat.succ_eq_add_one, Nat.sub_add_cancel (Nat.two_pow_pos e)]
      _ ≤ 2 ^ 8 * (2 ^ w - 1) := by gcongr; decide
  have hroom : 2 ^ 8 * (2 ^ w - 1) < 2 ^ (w + 8) := by
    have hpos : 0 < 2 ^ w := Nat.two_pow_pos w
    rw [Nat.pow_add]
    omega
  exact ⟨hsum, hsum.trans_lt hroom, smooth_le havg hval⟩

end Sys2Proof.Machine

/-! PROOF. The function `NORM`: its value by the width of the range, and its laws (40_calibrator R117, R129). -/

namespace Sys2Proof.Machine

section
variable {a lo hi : Nat}

/-- A range under 5, or a negative one, normalizes everything to 0. -/
theorem normalized_of_narrow (h : hi < lo + 5) : normalized a lo hi = 0 :=
  if_pos (by omega)

theorem normalized_of_le_lo (h : a ≤ lo) : normalized a lo hi = 0 := by
  simp [normalized, h]

/-- With a range of at least 5 the test `a ≤ lo` decides nothing over truncated differences. -/
theorem normalized_of_wide (h : lo + 5 ≤ hi) :
    normalized a lo hi = min 255 (255 * (a - lo) / (hi - lo)) := by
  by_cases ha : a ≤ lo
  · rw [normalized_of_le_lo ha, Nat.sub_eq_zero_of_le ha]
    simp
  · rw [normalized, if_neg (by omega), if_neg ha]

theorem normalized_of_ge_hi (h : lo + 5 ≤ hi) (ha : hi ≤ a) : normalized a lo hi = 255 := by
  have hquot : 255 ≤ 255 * (a - lo) / (hi - lo) := by
    rw [Nat.le_div_iff_mul_le (by omega)]
    gcongr
  rw [normalized_of_wide h, min_eq_left hquot]

theorem normalized_mono {b : Nat} (h : lo + 5 ≤ hi) (hab : a ≤ b) :
    normalized a lo hi ≤ normalized b lo hi := by
  rw [normalized_of_wide h, normalized_of_wide h]
  gcongr

/-- `NORM` over the integers, as 40_calibrator R117 prints it. -/
theorem normalized_int (a lo hi : Nat) :
    (normalized a lo hi : Int) =
      if (hi : Int) - lo < 5 then 0
      else if (a : Int) ≤ lo then 0
      else min 255 (255 * ((a : Int) - lo) / ((hi : Int) - lo)) := by
  split
  next hnarrow => rw [normalized_of_narrow (by omega)]; rfl
  next hwide =>
    split
    next hle => rw [normalized_of_le_lo (by omega)]; rfl
    next hlt =>
      rw [normalized_of_wide (by omega)]
      push_cast [show lo ≤ a by omega, show lo ≤ hi by omega]
      rfl

end

/-- Settles O20: the printed form, the bound, and the laws of each width of the range. -/
theorem normalizeLaws : Obligations.NormalizeLaws := fun a lo hi =>
  ⟨normalized_int a lo hi, normalize_le a lo hi, normalized_of_narrow, fun h =>
    ⟨normalized_of_le_lo le_rfl, normalized_of_ge_hi h, fun _ => normalized_mono h⟩⟩

end Sys2Proof.Machine

/-! PROOF. The calibration reset and `CALRST` (40_calibrator R111, R116). -/

namespace Sys2Proof.Machine

open Sys2Proof.Config

/-! ### The bounds of a reset channel -/

/-- `RAW_MAX` fits a register's cell (log 10). -/
theorem rawMax_lt_cell {p : Params} (hw : p.w ≤ 32) : rawMax p < 2 ^ 32 := by
  have hpow : 2 ^ p.w ≤ 2 ^ 32 := Nat.pow_le_pow_right (by decide) hw
  have hpos : 0 < 2 ^ p.w := Nat.two_pow_pos p.w
  unfold rawMax
  omega

theorem rawMax_pos {p : Params} (hw : 1 ≤ p.w) : 0 < rawMax p := by
  have hpow : 2 ^ 1 ≤ 2 ^ p.w := Nat.pow_le_pow_right (by decide) hw
  unfold rawMax
  omega

theorem resetBounds_minv_toNat {p : Params} (hw : p.w ≤ 32) (c : Channel) :
    (c.resetBounds (rawMax p)).minv.toNat = rawMax p :=
  Nat.mod_eq_of_lt (rawMax_lt_cell hw)

@[simp] theorem resetBounds_maxv_toNat (rawMax : Nat) (c : Channel) :
    (c.resetBounds rawMax).maxv.toNat = 0 := rfl

@[simp] theorem resetBounds_resetBounds (rawMax : Nat) (c : Channel) :
    (c.resetBounds rawMax).resetBounds rawMax = c.resetBounds rawMax := rfl

/-! ### `CALRST` -/

theorem exec_calrst (s : State) : exec .calrst s = .next (s.resetBounds.respond 0#32) := rfl

/-- A reset changes nothing in a state whose channels all have their bounds reset. -/
theorem resetBounds_eq_self {s : State}
    (h : ∀ i : Fin 16, i.val < s.params.nmax → (s.chan i).resetBounds (rawMax s.params) = s.chan i) :
    s.resetBounds = s := by
  have hchans : s.resetBounds.chans = s.chans := chan_ext fun i => by
    change s.resetBounds.chan i = s.chan i
    rw [resetBounds_chan]
    split
    next hi => exact h i hi
    next => rfl
  calc s.resetBounds
    _ = { s with chans := s.resetBounds.chans } := rfl
    _ = s := by rw [hchans]

theorem exec_calrst_twice (s : State) :
    exec .calrst (s.resetBounds.respond 0#32) =
      .next ((s.resetBounds.respond 0#32).respond 0#32) := by
  rw [exec_calrst, resetBounds_eq_self]
  intro i hi
  have hi' : i.val < s.params.nmax := hi
  simp [resetBounds_chan, hi']

/-- Settles O16: the word, the frame, each channel, and the second `CALRST`. -/
theorem calrstResetsEveryBound : Obligations.CalrstResetsEveryBound := by
  intro s hp
  obtain ⟨hwpos, hw⟩ := hp.width
  refine ⟨by decide, _, exec_calrst s, rfl, fun i => ?_, exec_calrst_twice s⟩
  rw [respond_chan, resetBounds_chan]
  split
  next =>
    have hmin := resetBounds_minv_toNat hw (s.chan i)
    have hmax := resetBounds_maxv_toNat (rawMax s.params) (s.chan i)
    have hrange : ((s.chan i).resetBounds (rawMax s.params)).maxv.toNat <
        ((s.chan i).resetBounds (rawMax s.params)).minv.toNat := by
      rw [hmin, hmax]
      exact rawMax_pos hwpos
    exact ⟨rfl, hmin, hmax, hrange, fun a => normalized_of_narrow (by omega)⟩
  next => rfl

end Sys2Proof.Machine

/-! PROOF. `SAMPLE`: its frame, the count with the automatic reset, and the fold of one channel (40_calibrator
R110 to R115, R121). -/

namespace Sys2Proof.Machine

open Sys2Proof.Config

/-- A header and the NACT words behind it are one `SAMPLE` (30_encoding R85). -/
theorem decode_sample {nact : Nat} {frame : List Word} (h : frame.length = nact) (rest : List Word) :
    decode nact (0x01000000#32 :: (frame ++ rest)) = .instr (.sample frame) rest := by
  have hheader : decodeFirst 0x01000000#32 = .sampleHeader := by decide
  subst h
  simp [decode, hheader]

theorem exec_sample {frame : List Word} {s : State} (h : frame.length = s.nact.toNat) :
    exec (.sample frame) s = .next ((s.countSample.foldFrame frame).respond 0#32) :=
  if_pos h

/-! ### The fold of one channel, over the naturals

A smoothed word is a word, so no register of the fold wraps, whatever the state. -/

theorem sampleOf_toNat (p : Params) (payload : Word) :
    (sampleOf p payload).toNat = payload.toNat % 2 ^ p.w :=
  Nat.mod_eq_of_lt ((Nat.mod_le _ _).trans_lt payload.isLt)

/-- The sample, or the running minimum for a glitch (40_calibrator R113). -/
theorem smootherInput_eq (rawMax : Nat) (minv r : Word) :
    smootherInput rawMax minv r = if r.toNat = 0 ∨ r.toNat = rawMax then minv.toNat else r.toNat := by
  simp [smootherInput, isGlitch]

theorem smootherInput_lt_cell (rawMax : Nat) (minv r : Word) : smootherInput rawMax minv r < 2 ^ 32 := by
  unfold smootherInput
  split
  · exact minv.isLt
  · exact r.isLt

section
variable (rawMax e : Nat) (r : Word) (c : Channel)

/-- The average that the fold computes (40_calibrator R114). -/
def Channel.folded : Nat := smooth e c.avg.toNat (smootherInput rawMax c.minv r)

theorem folded_lt_cell : c.folded rawMax e r < 2 ^ 32 :=
  Nat.lt_of_le_pred (by decide) (smooth_le (Nat.le_pred_of_lt c.avg.isLt)
    (Nat.le_pred_of_lt (smootherInput_lt_cell rawMax c.minv r)))

@[simp] theorem fold_raw : (c.fold rawMax e r).raw = r := rfl

@[simp] theorem fold_avg_toNat : (c.fold rawMax e r).avg.toNat = c.folded rawMax e r :=
  Nat.mod_eq_of_lt (folded_lt_cell rawMax e r c)

@[simp] theorem fold_minv_toNat :
    (c.fold rawMax e r).minv.toNat = Nat.min c.minv.toNat (c.folded rawMax e r) :=
  Nat.mod_eq_of_lt ((Nat.min_le_left _ _).trans_lt c.minv.isLt)

@[simp] theorem fold_maxv_toNat :
    (c.fold rawMax e r).maxv.toNat = Nat.max c.maxv.toNat (c.folded rawMax e r) :=
  Nat.mod_eq_of_lt (Nat.max_lt.mpr ⟨c.maxv.isLt, folded_lt_cell rawMax e r c⟩)

/-- The fold encloses the average (40_calibrator R121). -/
theorem fold_brackets :
    (c.fold rawMax e r).minv.toNat ≤ (c.fold rawMax e r).avg.toNat ∧
      (c.fold rawMax e r).avg.toNat ≤ (c.fold rawMax e r).maxv.toNat := by
  rw [fold_avg_toNat, fold_minv_toNat, fold_maxv_toNat]
  exact ⟨Nat.min_le_right _ _, Nat.le_max_right _ _⟩

/-- The fold only widens the bounds (40_calibrator R121). -/
theorem fold_widens :
    (c.fold rawMax e r).minv.toNat ≤ c.minv.toNat ∧ c.maxv.toNat ≤ (c.fold rawMax e r).maxv.toNat := by
  rw [fold_minv_toNat, fold_maxv_toNat]
  exact ⟨Nat.min_le_left _ _, Nat.le_max_left _ _⟩

end

/-! ### Counting a sample

`CNT` wraps at 255, and the wrap resets the bounds of the implemented channels (40_calibrator R111). -/

/-- The sample carries the automatic reset of channel `i`. -/
abbrev State.ResetsOnSample (s : State) (i : Fin 16) : Prop := s.cnt = 255#8 ∧ i.val < s.params.nmax

theorem cnt_wraps_iff (n : BitVec 8) : n + 1#8 = 0#8 ↔ n = 255#8 := by
  bv_omega

section
variable {s : State} {i : Fin 16}

theorem countSample_chan_of_resets (h : s.ResetsOnSample i) :
    s.countSample.chan i = (s.chan i).resetBounds (rawMax s.params) := by
  simp only [countSample_chan, cnt_wraps_iff]
  exact if_pos h

theorem countSample_chan_of_keeps (h : ¬ s.ResetsOnSample i) : s.countSample.chan i = s.chan i := by
  simp only [countSample_chan, cnt_wraps_iff]
  exact if_neg h

/-- Counting changes no register of a channel but its bounds. -/
theorem countSample_chan_frame (s : State) (i : Fin 16) :
    s.countSample.chan i =
      { s.chan i with
        minv := (s.countSample.chan i).minv
        maxv := (s.countSample.chan i).maxv } := by
  by_cases h : s.ResetsOnSample i
  · rw [countSample_chan_of_resets h]; rfl
  · rw [countSample_chan_of_keeps h]

theorem countSample_minv (hw : s.params.w ≤ 32) :
    (s.countSample.chan i).minv.toNat =
      if s.ResetsOnSample i then 2 ^ s.params.w - 1 else (s.chan i).minv.toNat := by
  split
  next h => rw [countSample_chan_of_resets h, resetBounds_minv_toNat hw]; rfl
  next h => rw [countSample_chan_of_keeps h]

theorem countSample_maxv :
    (s.countSample.chan i).maxv.toNat = if s.ResetsOnSample i then 0 else (s.chan i).maxv.toNat := by
  split
  next h => rw [countSample_chan_of_resets h, resetBounds_maxv_toNat]
  next h => rw [countSample_chan_of_keeps h]

/-! ### A channel after a whole `SAMPLE`: counted, and folded if it is active -/

theorem sampled_chan_of_active (frame : List Word) (h : i.val < s.nact.toNat) :
    ((s.countSample.foldFrame frame).respond 0#32).chan i =
      (s.countSample.chan i).fold (rawMax s.params) s.exp.toNat
        (sampleOf s.params (frame.getD i.val 0#32)) := by
  simp [foldFrame_chan, h]

theorem sampled_chan_of_inactive (frame : List Word) (h : ¬ i.val < s.nact.toNat) :
    ((s.countSample.foldFrame frame).respond 0#32).chan i = s.countSample.chan i := by
  simp [foldFrame_chan, h]

end

/-- Settles O12: each channel is counted, which gives `lo` and `hi`, and then folded if it is active. -/
theorem sampleFoldsTheFrame : Obligations.SampleFoldsTheFrame := by
  intro s frame rest hinv hlen
  refine ⟨decode_sample hlen rest, _, exec_sample hlen, sampled_eq frame s, fun i => ?_⟩
  intro c d wraps lo hi r val a
  have hframe := countSample_chan_frame s i
  have hlo : (s.countSample.chan i).minv.toNat = lo := countSample_minv hinv.params.width.2
  have hhi : (s.countSample.chan i).maxv.toNat = hi := countSample_maxv
  by_cases hact : i.val < s.nact.toNat
  · rw [if_pos hact]
    have hd : d = _ := sampled_chan_of_active frame hact
    have hr : (sampleOf s.params (frame.getD i.val 0#32)).toNat = r := sampleOf_toNat _ _
    have ha : (s.countSample.chan i).folded (rawMax s.params) s.exp.toNat
        (sampleOf s.params (frame.getD i.val 0#32)) = a := by
      rw [Channel.folded, smootherInput_eq, hr, hlo, hframe]
      rfl
    rw [hd, fold_avg_toNat, fold_minv_toNat, fold_maxv_toNat, ha, hlo, hhi]
    exact ⟨by rw [hframe]; rfl, hr, rfl, rfl, rfl⟩
  · rw [if_neg hact]
    have hd : d = _ := sampled_chan_of_inactive frame hact
    rw [hd]
    exact ⟨by rw [hframe], by rw [hframe], by rw [hframe], hlo, hhi⟩

/-! ### The bounds under the other commands -/

/-- Every channel has the same bounds in both states. -/
def SameBounds (s t : State) : Prop :=
  ∀ k : Fin 16, (t.chan k).minv = (s.chan k).minv ∧ (t.chan k).maxv = (s.chan k).maxv

theorem sameBounds_of_chans {s t : State} (h : t.chans = s.chans) : SameBounds s t := fun _ => by
  simp [State.chan, h]

theorem sameBounds_mapChans {f : Fin 16 → Channel → Channel}
    (hf : ∀ k c, (f k c).minv = c.minv ∧ (f k c).maxv = c.maxv) (s : State) :
    SameBounds s (s.mapChans f) := fun k => by
  simp [hf]

theorem sameBounds_commit {s written : State} (h : SameBounds s written) (legal : Bool) :
    SameBounds s (s.commit legal written) := by
  obtain ⟨-, hc⟩ | ⟨-, hc⟩ := commit_cases legal written s
  · rw [hc]; exact h
  · rw [hc]; exact sameBounds_of_chans rfl

theorem sameBounds_answer (s : State) (legal : Bool) (value : Word) :
    SameBounds s (s.answer legal value) := by
  rw [answer_eq]; exact sameBounds_of_chans rfl

theorem sameBounds_pollChannels (s : State) : SameBounds s s.pollChannels :=
  sameBounds_mapChans (fun k c => by split <;> exact ⟨rfl, rfl⟩) s

theorem sameBounds_latch (changed : Bool) {s polled : State} (h : SameBounds s polled) (m : Mask) :
    SameBounds s (if changed then polled.latchMask m else polled) := by
  cases changed <;> exact h

/-- No command but `SAMPLE` and `CALRST` writes a bound (40_calibrator R121). -/
theorem sameBounds_exec {i : Instr} {s t : State} (h : exec i s = .next t) (hcal : i ≠ .calrst)
    (hsample : ∀ frame, i ≠ .sample frame) : SameBounds s t := by
  cases i with
  | sample frame => exact absurd rfl (hsample frame)
  | calrst => exact absurd rfl hcal
  | poll => cases h; exact sameBounds_latch _ (sameBounds_pollChannels s) _
  | setn | setsteps | setexp | setroot | setpolicy =>
    cases h; exact sameBounds_commit (sameBounds_of_chans (by rfl)) _
  | setthr | setthrall =>
    cases h
    exact sameBounds_commit (sameBounds_mapChans (fun k c => by split <;> exact ⟨rfl, rfl⟩) s) _
  | setmode imm =>
    simp only [exec, execSetmode] at h
    split at h
    next => cases h; exact sameBounds_commit (sameBounds_of_chans (by rfl)) _
    next => cases h; exact sameBounds_commit (sameBounds_of_chans (by rfl)) _
  | getavg | getmin | getmax | getnorm | gettouch | getnote =>
    cases h; exact sameBounds_answer s _ _

/-- Settles O14: the fold brackets and widens, an inactive channel keeps its bounds, and no other command
writes them. -/
theorem sampleBracketsTheAverage : Obligations.SampleBracketsTheAverage := by
  refine ⟨fun s frame _ hlen => ⟨_, exec_sample hlen, fun i hact => ?brackets, fun hcnt i => ?widens⟩,
    fun i s t => sameBounds_exec⟩
  case brackets =>
    rw [sampled_chan_of_active frame hact]
    exact fold_brackets _ _ _ _
  case widens =>
    have hkeep : s.countSample.chan i = s.chan i := countSample_chan_of_keeps fun h => hcnt h.1
    by_cases hact : i.val < s.nact.toNat
    · rw [sampled_chan_of_active frame hact, hkeep]
      exact fold_widens _ _ _ _
    · rw [sampled_chan_of_inactive frame hact, hkeep]
      exact ⟨le_rfl, le_rfl⟩

end Sys2Proof.Machine

/-! PROOF. The debouncer: its step, what its history records, and its run length (41_debouncer). -/

namespace Sys2Proof.Machine

/-! ### The history register (41_debouncer R142) -/

/-- The `n` newest bits of the history are all zero: the `n` newest inputs disagreed with the stable value. -/
abbrev NewestDisagree (f : History) (n : Nat) : Prop := ∀ k < n, f.getLsbD k = false

theorem shiftHistory_getLsbD_zero (v : Bool) (f : History) (x : Bool) :
    (shiftHistory v f x).getLsbD 0 = (x == v) := by
  cases x <;> cases v <;> simp [shiftHistory]

theorem shiftHistory_getLsbD_zero_eq_false {v : Bool} {f : History} {x : Bool} :
    (shiftHistory v f x).getLsbD 0 = false ↔ x ≠ v := by
  rw [shiftHistory_getLsbD_zero, beq_eq_false_iff_ne]

theorem shiftHistory_getLsbD_succ (v : Bool) (f : History) (x : Bool) {k : Nat} (hk : k < 30) :
    (shiftHistory v f x).getLsbD (k + 1) = f.getLsbD k := by
  simp only [shiftHistory, BitVec.getLsbD_or, BitVec.getLsbD_shiftLeft]
  simp [show k + 1 < 31 by omega]

/-- A disagreeing input shifts in a zero. -/
theorem shiftHistory_not (v : Bool) (f : History) : shiftHistory v f (!v) = f <<< 1 := by
  simp [shiftHistory]

theorem runComplete_iff {f1 : History} {steps : Nat} :
    runComplete f1 steps = true ↔ NewestDisagree f1 steps := by
  simp only [runComplete, decide_eq_true_eq]
  constructor
  · intro h k hk
    have hbit : (f1.toNat % 2 ^ steps).testBit k = f1.getLsbD k := by
      rw [Nat.testBit_mod_two_pow, decide_eq_true hk, Bool.true_and, BitVec.testBit_toNat]
    rw [← hbit, h, Nat.zero_testBit]
  · intro h
    refine Nat.eq_of_testBit_eq fun k => ?_
    rw [Nat.testBit_mod_two_pow, Nat.zero_testBit, BitVec.testBit_toNat]
    by_cases hk : k < steps
    · rw [h k hk, Bool.and_false]
    · rw [decide_eq_false hk, Bool.false_and]

/-- The run read off the register before the shift (41_debouncer R143, second form). -/
theorem newestDisagree_shiftHistory {v x : Bool} {f : History} {steps : Nat} (hpos : 1 ≤ steps)
    (hmax : steps ≤ 31) :
    NewestDisagree (shiftHistory v f x) steps ↔ x ≠ v ∧ NewestDisagree f (steps - 1) := by
  constructor
  · intro h
    refine ⟨shiftHistory_getLsbD_zero_eq_false.mp (h 0 hpos), fun k hk => ?_⟩
    rw [← shiftHistory_getLsbD_succ v f x (by omega)]
    exact h (k + 1) (by omega)
  · rintro ⟨hne, h⟩ k hk
    cases k with
    | zero => exact shiftHistory_getLsbD_zero_eq_false.mpr hne
    | succ k =>
      rw [shiftHistory_getLsbD_succ v f x (by omega)]
      exact h k (by omega)

/-! ### One step (41_debouncer R141, R143) -/

section
variable {rebase v x : Bool} {f : History} {steps : Nat}

/-- A step completes a run, and flips the stable value to the input, or only records the input. -/
theorem debounceStep_cases (hpos : 1 ≤ steps) :
    (NewestDisagree (shiftHistory v f x) steps ∧ x ≠ v ∧ debounceStep rebase v f x steps =
        (x, if rebase then ~~~shiftHistory v f x else shiftHistory v f x)) ∨
      (¬ NewestDisagree (shiftHistory v f x) steps ∧
        debounceStep rebase v f x steps = (v, shiftHistory v f x)) := by
  by_cases hrun : NewestDisagree (shiftHistory v f x) steps
  · exact .inl ⟨hrun, shiftHistory_getLsbD_zero_eq_false.mp (hrun 0 hpos), if_pos (runComplete_iff.mpr hrun)⟩
  · exact .inr ⟨hrun, if_neg (mt runComplete_iff.mp hrun)⟩

theorem debounceStep_flips_iff (hpos : 1 ≤ steps) :
    (debounceStep rebase v f x steps).1 ≠ v ↔ NewestDisagree (shiftHistory v f x) steps := by
  obtain ⟨hrun, hne, heq⟩ | ⟨hrun, heq⟩ := debounceStep_cases (rebase := rebase) (x := x) hpos
  · rw [heq]; exact iff_of_true hne hrun
  · rw [heq]; exact iff_of_false (not_not.mpr rfl) hrun

theorem debounceStep_flips_iff_before (hpos : 1 ≤ steps) (hmax : steps ≤ 31) :
    (debounceStep rebase v f x steps).1 ≠ v ↔ x ≠ v ∧ NewestDisagree f (steps - 1) :=
  (debounceStep_flips_iff hpos).trans (newestDisagree_shiftHistory hpos hmax)

theorem debounceStep_of_flips (hpos : 1 ≤ steps) (h : (debounceStep rebase v f x steps).1 ≠ v) :
    debounceStep rebase v f x steps =
      (x, if rebase then ~~~shiftHistory v f x else shiftHistory v f x) := by
  obtain ⟨-, -, heq⟩ | ⟨-, heq⟩ := debounceStep_cases (rebase := rebase) (x := x) hpos
  · exact heq
  · exact absurd (by rw [heq]) h

theorem debounceStep_of_stays (hpos : 1 ≤ steps) (h : (debounceStep rebase v f x steps).1 = v) :
    debounceStep rebase v f x steps = (v, shiftHistory v f x) := by
  obtain ⟨-, hne, heq⟩ | ⟨-, heq⟩ := debounceStep_cases (rebase := rebase) (x := x) hpos
  · rw [heq] at h; exact absurd h hne
  · exact heq

/-- An agreeing input changes no stable value. -/
theorem debounceStep_fst_self (hpos : 1 ≤ steps) : (debounceStep rebase v f v steps).1 = v := by
  by_contra h
  exact h (by rw [debounceStep_of_flips hpos h])

/-- With a run length of 1 the debouncer is transparent. -/
theorem debounceStep_fst_one : (debounceStep rebase v f x 1).1 = x := by
  by_cases hne : x = v
  · rw [hne]; exact debounceStep_fst_self le_rfl
  · have hflip : (debounceStep rebase v f x 1).1 ≠ v :=
      (debounceStep_flips_iff_before le_rfl (by decide)).mpr ⟨hne, fun k hk => absurd hk (by omega)⟩
    rw [debounceStep_of_flips le_rfl hflip]

end

/-- Settles O22: the bits of the shifted register, and the two forms of the flip condition. -/
theorem debouncerFlipCondition : Obligations.DebouncerFlipCondition := by
  intro rebase v x f steps hpos hmax
  refine ⟨shiftHistory_getLsbD_zero v f x, fun k hk => shiftHistory_getLsbD_succ v f x hk,
    debounceStep_flips_iff hpos, fun hflip => ?flipsToInput, debounceStep_flips_iff_before hpos hmax, ?one⟩
  case flipsToInput => rw [debounceStep_of_flips hpos hflip]
  case one =>
    rintro rfl
    exact debounceStep_fst_one

/-! ### What the history records (41_debouncer R145, 10_state R49) -/

/-- Bit `k` of the history says whether the input `h k` of `k` steps ago agrees with the present stable
value. -/
def RecordsInputs (d : Bool × History) (h : Nat → Bool) : Prop :=
  ∀ k < 31, d.2.getLsbD k = (h k == d.1)

/-- The reset state records inputs of 1 before the reset (41_debouncer R146). -/
theorem recordsInputs_reset : RecordsInputs (debounceRun true []) (pastInput []) := by
  intro k _
  simp [debounceRun, pastInput]

section
variable {v : Bool} {f : History} {h : Nat → Bool}

theorem RecordsInputs.after_shift (hrec : RecordsInputs (v, f) fun k => h (k + 1)) :
    RecordsInputs (v, shiftHistory v f (h 0)) h := by
  intro k hk
  cases k with
  | zero => exact shiftHistory_getLsbD_zero v f (h 0)
  | succ k =>
    rw [shiftHistory_getLsbD_succ v f (h 0) (by omega)]
    exact hrec k (by omega)

/-- After a flip, agreement with the new stable value is the complement of agreement with the old one. -/
theorem RecordsInputs.complement {x : Bool} (hrec : RecordsInputs (v, f) h) (hne : x ≠ v) :
    RecordsInputs (x, ~~~f) h := by
  intro k hk
  have hbit : f.getLsbD k = (h k == v) := hrec k hk
  have hx : x = !v := Bool.eq_not.mpr hne
  rw [BitVec.getLsbD_not, hbit, hx]
  cases h k <;> cases v <;> simp [hk]

/-- In a register that records the inputs, the run length counts equal inputs. -/
theorem RecordsInputs.newestDisagree_iff (hrec : RecordsInputs (v, f) h) {steps : Nat}
    (hpos : 1 ≤ steps) (hmax : steps ≤ 31) :
    NewestDisagree f steps ↔ h 0 ≠ v ∧ ∀ k < steps, h k = h 0 := by
  have hbit : ∀ k < steps, (f.getLsbD k = false ↔ h k ≠ v) := fun k hk => by
    rw [hrec k (by omega)]; exact beq_eq_false_iff_ne
  constructor
  · intro hrun
    have hne : ∀ k < steps, h k = !v := fun k hk => Bool.eq_not.mpr ((hbit k hk).mp (hrun k hk))
    exact ⟨(hbit 0 hpos).mp (hrun 0 hpos), fun k hk => (hne k hk).trans (hne 0 hpos).symm⟩
  · rintro ⟨hne, heq⟩ k hk
    exact (hbit k hk).mpr (heq k hk ▸ hne)

/-- The invariant's step: re-basing keeps the record, whether the step flips or not. -/
theorem RecordsInputs.after_step {steps : Nat} (hpos : 1 ≤ steps)
    (hrec : RecordsInputs (v, f) fun k => h (k + 1)) :
    RecordsInputs (debounceStep true v f (h 0) steps) h := by
  obtain ⟨-, hne, heq⟩ | ⟨-, heq⟩ :=
    debounceStep_cases (rebase := true) (v := v) (f := f) (x := h 0) hpos
  · rw [heq]; exact hrec.after_shift.complement hne
  · rw [heq]; exact hrec.after_shift

/-- The stable value after a step, from the inputs alone. -/
theorem RecordsInputs.fst_after_step {steps : Nat} (hpos : 1 ≤ steps) (hmax : steps ≤ 31)
    (hrec : RecordsInputs (v, f) fun k => h (k + 1)) :
    (debounceStep true v f (h 0) steps).1 =
      if h 0 ≠ v ∧ ∀ k < steps, h k = h 0 then h 0 else v := by
  have hflip := (debounceStep_flips_iff (rebase := true) hpos).trans
    (hrec.after_shift.newestDisagree_iff hpos hmax)
  split
  next hrun => rw [debounceStep_of_flips hpos (hflip.mpr hrun)]
  next hrun => exact not_not.mp (mt hflip.mp hrun)

end

/-- After any history the register records the inputs (10_state R49). -/
theorem recordsInputs_debounceRun {history : List (Bool × Nat)} (hsteps : ∀ p ∈ history, 1 ≤ p.2) :
    RecordsInputs (debounceRun true history) (pastInput history) := by
  induction history with
  | nil => exact recordsInputs_reset
  | cons p earlier ih =>
    obtain ⟨hpos, hearlier⟩ := List.forall_mem_cons.mp hsteps
    exact RecordsInputs.after_step (h := pastInput (p :: earlier)) hpos (ih hearlier)

/-- Settles O23: the register before the step records the inputs, by induction on the history, and the step
keeps that. -/
theorem debouncerHistoryCharacterisation : Obligations.DebouncerHistoryCharacterisation := by
  intro history x steps hpos hmax hsteps before after h
  have hrec : RecordsInputs before fun k => h (k + 1) :=
    recordsInputs_debounceRun fun p hp => (hsteps p hp).1
  have hafter : after = debounceStep true before.1 before.2 (h 0) steps := rfl
  rw [hafter]
  exact ⟨hrec.fst_after_step hpos hmax, hrec.after_step hpos⟩

/-! ### Runs of inputs at one run length (41_debouncer R147) -/

theorem debounceInputs_append (rebase : Bool) (steps : Nat) (xs ys : List Bool) (d : Bool × History) :
    debounceInputs rebase steps (xs ++ ys) d =
      debounceInputs rebase steps ys (debounceInputs rebase steps xs d) := by
  induction xs generalizing d with
  | nil => rfl
  | cons x xs ih => exact ih _

section
variable {rebase v : Bool} {f : History} {steps : Nat}

/-- An agreement recorded at bit `i` prevents a flip until it has left the low bits, whatever the inputs. -/
theorem debounceInputs_fst_of_agreement (hmax : steps ≤ 31) {inputs : List Bool} {i : Nat}
    (hbit : f.getLsbD i = true) (hlen : i + inputs.length < steps) :
    (debounceInputs rebase steps inputs (v, f)).1 = v := by
  induction inputs generalizing f i with
  | nil => rfl
  | cons x later ih =>
    rw [List.length_cons] at hlen
    have hpos : 1 ≤ steps := by omega
    have hstays : (debounceStep rebase v f x steps).1 = v := by
      by_contra hflip
      obtain ⟨-, hrun⟩ := (debounceStep_flips_iff_before hpos hmax).mp hflip
      exact absurd (hrun i (by omega)) (by simp [hbit])
    have hshift : (shiftHistory v f x).getLsbD (i + 1) = true :=
      (shiftHistory_getLsbD_succ v f x (by omega)).trans hbit
    rw [debounceInputs, debounceStep_of_stays hpos hstays]
    exact ih hshift (by omega)

/-- A settled debouncer does not flip before `steps` inputs. -/
theorem debounceInputs_fst_of_settled (hmax : steps ≤ 31) (hbit : f.getLsbD 0 = true)
    {inputs : List Bool} (hlen : inputs.length < steps) :
    (debounceInputs rebase steps inputs (v, f)).1 = v :=
  debounceInputs_fst_of_agreement hmax hbit (by omega)

theorem debounceInputs_replicate_succ (rebase : Bool) (steps n : Nat) (x : Bool) (d : Bool × History) :
    debounceInputs rebase steps (List.replicate (n + 1) x) d =
      debounceStep rebase (debounceInputs rebase steps (List.replicate n x) d).1
        (debounceInputs rebase steps (List.replicate n x) d).2 x steps := by
  rw [List.replicate_succ', debounceInputs_append]
  rfl

/-- Disagreeing inputs that do not flip shift zeros into the history. -/
theorem debounceInputs_disagreeing (hpos : 1 ≤ steps) {n : Nat}
    (hstays : ∀ m ≤ n, (debounceInputs rebase steps (List.replicate m (!v)) (v, f)).1 = v) :
    debounceInputs rebase steps (List.replicate n (!v)) (v, f) = (v, f <<< n) := by
  induction n with
  | zero => simp [debounceInputs]
  | succ n ih =>
    have hlast := hstays (n + 1) le_rfl
    rw [debounceInputs_replicate_succ, ih fun m hm => hstays m (by omega)] at hlast ⊢
    rw [debounceStep_of_stays hpos hlast, shiftHistory_not, ← BitVec.shiftLeft_add]

/-- One disagreeing input more flips when the zeros shifted in, and those recorded before, fill the run. -/
theorem debounceInputs_disagreeing_flips (hmax : steps ≤ 31) {n : Nat} (hn : n < steps)
    (hstays : ∀ m ≤ n, (debounceInputs rebase steps (List.replicate m (!v)) (v, f)).1 = v)
    (hrest : NewestDisagree f (steps - 1 - n)) :
    (debounceInputs rebase steps (List.replicate (n + 1) (!v)) (v, f)).1 ≠ v := by
  have hpos : 1 ≤ steps := by omega
  rw [debounceInputs_replicate_succ, debounceInputs_disagreeing hpos hstays,
    debounceStep_flips_iff_before hpos hmax]
  refine ⟨Bool.not_ne_self v, fun k hk => ?_⟩
  rw [BitVec.getLsbD_shiftLeft]
  by_cases hkn : k < n
  · simp [hkn]
  · simp [hrest (k - n) (by omega)]

theorem debounceInputs_fst_replicate_of_settled (hmax : steps ≤ 31) (hbit : f.getLsbD 0 = true) {x : Bool}
    {n : Nat} (hn : n < steps) :
    (debounceInputs rebase steps (List.replicate n x) (v, f)).1 = v :=
  debounceInputs_fst_of_settled hmax hbit (by rwa [List.length_replicate])

/-- A settled debouncer flips at the last of `steps` disagreeing inputs. -/
theorem debounceInputs_full_run (hpos : 1 ≤ steps) (hmax : steps ≤ 31) (hbit : f.getLsbD 0 = true) :
    (debounceInputs rebase steps (List.replicate steps (!v)) (v, f)).1 = !v := by
  obtain ⟨n, rfl⟩ : ∃ n, steps = n + 1 := ⟨steps - 1, by omega⟩
  refine Bool.eq_not.mpr (debounceInputs_disagreeing_flips hmax (by omega) (fun m hm => ?_)
    fun k hk => absurd hk (by omega))
  exact debounceInputs_fst_replicate_of_settled hmax hbit (by omega)

/-- An agreeing input after fewer than `steps` disagreeing ones is no change. -/
theorem debounceInputs_broken_run (hpos : 1 ≤ steps) (hmax : steps ≤ 31) (hbit : f.getLsbD 0 = true) :
    (debounceInputs rebase steps (List.replicate (steps - 1) (!v) ++ [v]) (v, f)).1 = v := by
  rw [debounceInputs_append, debounceInputs_disagreeing hpos fun m hm =>
    debounceInputs_fst_replicate_of_settled hmax hbit (by omega)]
  exact debounceStep_fst_self hpos

/-- If fewer than `steps` disagreeing inputs do not flip, the debouncer is settled: an unsettled one would
flip at input `steps - 1`. -/
theorem settled_of_stays (hmax : steps ≤ 31) (htwo : 2 ≤ steps)
    (hstays : ∀ n < steps, (debounceInputs rebase steps (List.replicate n (!v)) (v, f)).1 = v) :
    f.getLsbD 0 = true := by
  by_contra hbit
  refine debounceInputs_disagreeing_flips hmax (n := steps - 2) (by omega)
    (fun m hm => hstays m (by omega)) (fun k hk => ?_) (hstays (steps - 2 + 1) (by omega))
  obtain rfl : k = 0 := by omega
  exact Bool.eq_false_iff.mpr hbit

/-- With re-basing a flip leaves the debouncer settled. -/
theorem debounceStep_settled_of_flips (hpos : 1 ≤ steps) {x : Bool}
    (hflip : (debounceStep true v f x steps).1 ≠ v) :
    (debounceStep true v f x steps).2.getLsbD 0 = true := by
  have hzero : (shiftHistory v f x).getLsbD 0 = false := (debounceStep_flips_iff hpos).mp hflip 0 hpos
  rw [debounceStep_of_flips hpos hflip]
  rw [if_pos rfl, BitVec.getLsbD_not, hzero]
  rfl

end

/-- Settles O24: an agreement keeps the stable value while it is among the low bits, and a full run of zeros
flips it. -/
theorem debouncerRunLength : Obligations.DebouncerRunLength := by
  intro rebase v f steps hpos hmax
  refine ⟨fun hbit => ⟨fun n hn => debounceInputs_fst_replicate_of_settled hmax hbit hn,
    debounceInputs_full_run hpos hmax hbit, debounceInputs_broken_run hpos hmax hbit⟩,
    settled_of_stays hmax, fun x later hflip hlen => ?afterFlip⟩
  case afterFlip =>
    have hbit := debounceStep_settled_of_flips hpos hflip
    refine ⟨hbit, (debounceInputs_fst_of_settled hmax hbit hlen).trans ?_⟩
    exact congrArg Prod.fst (debounceStep_of_flips hpos hflip)

/-! ### From reset (41_debouncer R146) -/

/-- Settles O25: the reset history of zeros completes any run, and a first 0 settles the debouncer. -/
theorem debouncerFromReset : Obligations.DebouncerFromReset := by
  intro steps hpos hmax
  have hsettled : (1#31).getLsbD 0 = true := by decide
  refine ⟨?firstOne, ?firstZero, fun n hn => debounceInputs_fst_replicate_of_settled hmax hsettled hn,
    debounceInputs_full_run (v := false) hpos hmax hsettled⟩
  case firstOne =>
    refine debounceStep_of_flips hpos ((debounceStep_flips_iff_before hpos hmax).mpr ⟨by decide, ?_⟩)
    exact fun k _ => BitVec.getLsbD_zero
  case firstZero => exact debounceStep_of_stays hpos (debounceStep_fst_self hpos)

end Sys2Proof.Machine

/-! PROOF. The pad aggregator: what a poll does to one channel, its response word, and its two outcomes
(42_aggregator R160 to R168). -/

namespace Sys2Proof.Machine

/-! ### The poll of one channel (42_aggregator R161, R162) -/

section
variable (rebase : Bool) (steps : Nat) (c : Channel)

theorem poll_norm_toNat :
    (c.poll rebase steps).norm.toNat = normalized c.avg.toNat c.minv.toNat c.maxv.toNat :=
  Nat.mod_eq_of_lt (Nat.lt_succ_of_le (normalize_le _ _ _))

theorem poll_debounced :
    ((c.poll rebase steps).dbv, (c.poll rebase steps).dbf) =
      debounceStep rebase c.dbv c.dbf
        (decide (normalized c.avg.toNat c.minv.toNat c.maxv.toNat ≤ c.thr.toNat)) steps := by
  rw [← poll_norm_toNat rebase steps c]
  rfl

theorem poll_frame :
    c.poll rebase steps =
      { c with
        norm := (c.poll rebase steps).norm
        dbv := (c.poll rebase steps).dbv
        dbf := (c.poll rebase steps).dbf } :=
  rfl

end

/-! ### The response word (30_encoding R97, 42_aggregator R168) -/

/-- The fields of the response do not overlap, so the word is their sum. -/
theorem pollResponse_eq (changed : Bool) (note : Note) (touch : Mask) :
    pollResponse changed note touch =
      BitVec.ofNat 32 (changed.toNat * 2 ^ 31 + note.toNat * 2 ^ 16 + touch.toNat) := by
  have hchanged := changed.toNat_lt
  have hnote := note.isLt
  have htouch := touch.isLt
  apply BitVec.eq_of_toNat_eq
  rw [BitVec.toNat_ofNat, Nat.mod_eq_of_lt (by omega)]
  simp only [pollResponse, BitVec.toNat_append, BitVec.toNat_ofBool, BitVec.toNat_ofNat]
  rw [← Nat.shiftLeft_add_eq_or_of_lt htouch, ← Nat.shiftLeft_add_eq_or_of_lt hnote,
    ← Nat.shiftLeft_add_eq_or_of_lt (by decide)]
  simp only [Nat.shiftLeft_eq]
  omega

/-! ### The two outcomes of a poll (42_aggregator R166, R167) -/

/-- `DECODE` reads configuration only, which polling the channels leaves alone (43_decoder R180). -/
@[simp] theorem pollChannels_decodeNote (s : State) (m : Mask) :
    s.pollChannels.decodeNote m = s.decodeNote m :=
  rfl

section
variable {s : State}

theorem exec_poll_of_same (h : s.pollChannels.freshMask = s.touch) :
    exec .poll s =
      .next (s.pollChannels.respond (pollResponse false s.lastnote s.touch)) := by
  simp [exec, execPoll, maskChanged, h]

theorem exec_poll_of_changed (h : s.pollChannels.freshMask ≠ s.touch) :
    exec .poll s =
      .next ((s.pollChannels.latchMask s.pollChannels.freshMask).respond
        (pollResponse true (s.decodeNote s.pollChannels.freshMask) s.pollChannels.freshMask)) := by
  simp [exec, execPoll, maskChanged, h]

end

/-- With either outcome the channels are the polled ones, and the registers and the interface are kept but for
the mask, the note, the response and the event (42_aggregator R164). -/
theorem exec_poll_frame (s : State) :
    ∃ t : State, exec .poll s = .next t ∧
      t = { s with
        chans := t.chans, touch := t.touch, lastnote := t.lastnote,
        responses := t.responses, notes := t.notes } ∧
      ∀ i : Fin 16, t.chan i = s.pollChannels.chan i := by
  by_cases h : s.pollChannels.freshMask = s.touch
  · exact ⟨_, exec_poll_of_same h, rfl, fun _ => rfl⟩
  · exact ⟨_, exec_poll_of_changed h, rfl, fun _ => rfl⟩

/-- Settles O28: the frame of either outcome, and the poll of one channel. -/
theorem pollStepsActiveChannels : Obligations.PollStepsActiveChannels := by
  intro s
  obtain ⟨t, hexec, hframe, hchan⟩ := exec_poll_frame s
  refine ⟨by decide, t, hexec, hframe, fun i => ?_⟩
  dsimp only
  rw [hchan, pollChannels_chan]
  split
  next hactive => exact ⟨poll_frame _ _ _, poll_norm_toNat _ _ _, poll_debounced _ _ _⟩
  next hinactive => rfl

/-- Settles O29: TOUCH holds the fresh mask whether it was latched or already there, and the rest is read off
the two outcomes. -/
theorem pollReportsChange : Obligations.PollReportsChange := by
  intro s
  by_cases h : s.pollChannels.freshMask = s.touch
  · refine ⟨_, exec_poll_of_same h, fun i => ?mask, ?report⟩
    case mask => exact h ▸ freshMask_getLsbD s.pollChannels i
    case report =>
      rw [respond_touch, pollChannels_touch, if_pos rfl]
      exact ⟨rfl, rfl, by simp [pollResponse_eq]⟩
  · refine ⟨_, exec_poll_of_changed h, freshMask_getLsbD s.pollChannels, ?report⟩
    rw [respond_touch, latchMask_touch, if_neg h]
    exact ⟨rfl, rfl, by simp [pollResponse_eq]⟩

end Sys2Proof.Machine

/-! PROOF. The scale: what `SETROOT` writes, and the entries of the table (43_decoder R181, R184, R185). -/

namespace Sys2Proof.Machine

open Sys2Proof.Config

theorem scaleOf_get (p : Params) (root : BitVec 7) (mode : Mode) (d : Fin 7) :
    (scaleOf p root mode)[d] = BitVec.ofNat 8 (root.toNat + p.modeT[modeNumber mode][d]) :=
  degrees_get _ d

/-- A legal root is written, and the scale of the present mode with it; the old root and scale are not read. -/
theorem exec_setroot_of_legal {x : BitVec 8} (h : x.toNat ≤ 127) (s : State) :
    exec (.setroot x) s = .next { s with
      root := x.setWidth 7
      scale := scaleOf s.params (x.setWidth 7) s.mode
      responses := s.answered 0#32 } := by
  simp [exec, execSetroot, State.commit, legalRoot, h, State.respond]

/-- Settles O10: both sides write the scale of `r` and of the mode, which `SETROOT x` keeps. -/
theorem transpositionRoundTrip : Obligations.TranspositionRoundTrip := by
  intro s x r hx hr
  refine ⟨_, _, _, exec_setroot_of_legal hx s, exec_setroot_of_legal hr _, exec_setroot_of_legal hr s,
    rfl, rfl, fun hscale hroot => ?_⟩
  have hback : r.setWidth 7 = s.root := by bv_omega
  rw [hscale, ← hback]

end Sys2Proof.Machine

/-! PROOF. The fold and the note assembly: every note a policy finishes is 0 to 127 or 255 (43_decoder R186,
R187). -/

namespace Sys2Proof.Machine

theorem foldDegree_of_lt {idx : Nat} (h : idx < 7) (o : Int) :
    (foldDegree idx o).1.val = idx ∧ (foldDegree idx o).2 = o := by
  simp [foldDegree, Nat.mod_eq_of_lt h, Nat.div_eq_of_lt h]

/-- One turn of the loop: 7 degrees are 12 semitones. -/
theorem foldDegree_add_seven (idx : Nat) (o : Int) : foldDegree (idx + 7) o = foldDegree idx (o + 12) := by
  refine Prod.ext (Fin.ext ?degree) ?octaves
  case degree => exact Nat.add_mod_right idx 7
  case octaves => simp only [foldDegree]; omega

/-- Settles O33: no turn is left below 7, and one turn is taken at 7 and above. -/
theorem foldCountsOctaves : Obligations.FoldCountsOctaves := by
  intro idx o
  split
  next h => exact foldDegree_of_lt h o
  next h =>
    obtain ⟨k, rfl⟩ := Nat.exists_eq_add_of_le' (not_lt.mp h)
    exact foldDegree_add_seven k o

section
variable (scale : Vector (BitVec 8) 7) (idx : Nat) (o acc : Int)

/-- Degree 7 is degree 0 one octave up. -/
theorem finishNote_add_seven : finishNote scale (idx + 7) o acc = finishNote scale idx (o + 12) acc := by
  simp only [finishNote, foldDegree_add_seven]

/-- The sum of note assembly, over the integers. -/
def noteSum : Int := (scale[Fin.ofNat 7 idx].toNat : Int) + (o + 12 * ((idx / 7 : Nat) : Int)) + acc

/-- The two outcomes of note assembly: the sum is a note, or there is no note. -/
theorem finishNote_cases :
    ((0 ≤ noteSum scale idx o acc ∧ noteSum scale idx o acc ≤ 127) ∧
        ((finishNote scale idx o acc).toNat : Int) = noteSum scale idx o acc) ∨
      (¬ (0 ≤ noteSum scale idx o acc ∧ noteSum scale idx o acc ≤ 127) ∧
        finishNote scale idx o acc = noNote) := by
  have hdef : finishNote scale idx o acc =
      if 0 ≤ noteSum scale idx o acc ∧ noteSum scale idx o acc ≤ 127
      then BitVec.ofNat 8 (noteSum scale idx o acc).toNat else noNote := rfl
  rw [hdef]
  generalize noteSum scale idx o acc = n
  by_cases h : 0 ≤ n ∧ n ≤ 127
  · rw [if_pos h, BitVec.toNat_ofNat]
    exact .inl ⟨h, by omega⟩
  · exact .inr ⟨h, if_neg h⟩

/-- With no octave and no accidental a degree's note is its entry of the scale. -/
theorem finishNote_of_degree {d : Fin 7} (h : scale[d].toNat ≤ 127) :
    finishNote scale d.val 0 0 = scale[d] := by
  have hsum : noteSum scale d.val 0 0 = scale[d].toNat := by
    simp [noteSum, Nat.div_eq_of_lt d.isLt]
  obtain ⟨-, hnote⟩ | ⟨hrange, -⟩ := finishNote_cases scale d.val 0 0
  · exact BitVec.eq_of_toNat_eq (by omega)
  · omega

end

/-- Settles O34, by the two outcomes of note assembly. -/
theorem finishAssemblesTheNote : Obligations.FinishAssemblesTheNote := by
  intro scale idx o acc
  obtain ⟨hrange, hnote⟩ | ⟨hrange, hnote⟩ := finishNote_cases scale idx o acc
  · exact hnote.trans (if_pos hrange).symm
  · rw [hnote]
    exact (if_neg hrange).symm

end Sys2Proof.Machine

/-! PROOF. The policies: the mask bits each one reads, and the notes it answers (43_decoder R188 to R198). -/

namespace Sys2Proof.Machine

open Sys2Proof.Config

/-! ### Every policy answers 0 to 127 or 255 (43_decoder R200) -/

/-- A note number, or the sentinel (10_state R39). -/
abbrev IsNote (n : Note) : Prop := n.toNat ≤ 127 ∨ n.toNat = 255

theorem isNote_noNote : IsNote noNote := .inr rfl

theorem isNote_finishNote (scale : Vector (BitVec 8) 7) (idx : Nat) (o acc : Int) :
    IsNote (finishNote scale idx o acc) := by
  obtain ⟨hrange, hnote⟩ | ⟨-, hnote⟩ := finishNote_cases scale idx o acc
  · exact .inl (by omega)
  · exact hnote ▸ isNote_noNote

theorem isNote_lowBitNote (scale : Vector (BitVec 8) 7) (m : Mask) : IsNote (lowBitNote scale m) :=
  isNote_finishNote _ _ _ _

theorem isNote_grayNote (gray : Vector (Option Nat) 16) (scale : Vector (BitVec 8) 7) (m : Mask) :
    IsNote (grayNote gray scale m) := by
  unfold grayNote
  split
  next => exact isNote_finishNote _ _ _ _
  next => exact isNote_noNote

theorem isNote_naturalNote (table : Nat → Nat → Option Nat) (oct : NatOct) (scale : Vector (BitVec 8) 7)
    (n : Nat) (m : Mask) : IsNote (naturalNote table oct scale n m) := by
  unfold naturalNote
  split
  next => exact isNote_noNote
  next =>
    split
    next => exact isNote_noNote
    next =>
      split
      next => exact isNote_noNote
      next => exact isNote_finishNote _ _ _ _

theorem isNote_strongNote (perm : Fin 6 → Fin 6) (d : Delegate) (gray : Vector (Option Nat) 16)
    (scale : Vector (BitVec 8) 7) (m : Mask) : IsNote (strongNote perm d gray scale m) := by
  cases d with
  | lowBit => exact isNote_lowBitNote _ _
  | gray => exact isNote_grayNote _ _ _

theorem isNote_decodeNote (s : State) (m : Mask) : IsNote (s.decodeNote m) := by
  unfold State.decodeNote
  cases s.policy with
  | natural => exact isNote_naturalNote _ _ _ _ _
  | lowBit => exact isNote_lowBitNote _ _
  | gray => exact isNote_grayNote _ _ _
  | strong => exact isNote_strongNote _ _ _ _ _

/-- Settles O35: the dispatch is the definition of `DECODE`, and each policy finishes its note. -/
theorem decoderDispatchesAndIsTotal : Obligations.DecoderDispatchesAndIsTotal :=
  fun s m => ⟨rfl, isNote_decodeNote s m⟩

/-! ### The bits of a mask as digits of its number -/

theorem mask_getLsbD_eq (m : Mask) (i : Nat) : m.getLsbD i = decide (m.toNat / 2 ^ i % 2 = 1) :=
  Nat.testBit_eq_decide_div_mod_eq

theorem accidental_eq (m : Mask) :
    accidental m =
      (if m.toNat / 16 % 2 = 0 then -1 else 0) + (if m.toNat / 32 % 2 = 0 then 1 else 0) := by
  simp only [accidental, mask_getLsbD_eq, Nat.reducePow, decide_eq_true_eq]
  congr 1
  · split <;> split <;> omega
  · split <;> split <;> omega

theorem lowBitNote_eq (scale : Vector (BitVec 8) 7) (m : Mask) :
    lowBitNote scale m =
      finishNote scale (m.toNat % 8) (if m.toNat / 8 % 2 = 1 then 12 else 0) (accidental m) := by
  simp only [lowBitNote, BitVec.extractLsb'_toNat, Nat.shiftRight_zero, mask_getLsbD_eq, Nat.reducePow,
    decide_eq_true_eq]

/-! ### The policies of six bits read those six only (43_decoder R190) -/

/-- Two masks with the same bits 0 to 5. -/
abbrev SameLowSix (m n : Mask) : Prop := ∀ j < 6, m.getLsbD j = n.getLsbD j

theorem sameLowSix_of_mod_eq {m n : Mask} (h : m.toNat % 64 = n.toNat % 64) : SameLowSix m n := by
  intro j hj
  have hbit : ∀ a : Mask, (a.toNat % 2 ^ 6).testBit j = a.getLsbD j := by
    intro a
    rw [Nat.testBit_mod_two_pow, decide_eq_true hj, Bool.true_and, BitVec.testBit_toNat]
  calc m.getLsbD j
      _ = (m.toNat % 2 ^ 6).testBit j := (hbit m).symm
      _ = (n.toNat % 2 ^ 6).testBit j := congrArg (Nat.testBit · j) h
      _ = n.getLsbD j := hbit n

section
variable {m n : Mask} (h : SameLowSix m n) (gray : Vector (Option Nat) 16) (scale : Vector (BitVec 8) 7)
include h

theorem extract_congr {k : Nat} (hk : k ≤ 6) : m.extractLsb' 0 k = n.extractLsb' 0 k := by
  refine BitVec.eq_of_getLsbD_eq fun i hi => ?_
  simp only [BitVec.getLsbD_extractLsb', Nat.zero_add, h i (by omega)]

theorem accidental_congr : accidental m = accidental n := by
  simp only [accidental, h 4 (by decide), h 5 (by decide)]

theorem lowBitNote_congr : lowBitNote scale m = lowBitNote scale n := by
  simp only [lowBitNote, extract_congr h (show 3 ≤ 6 by decide), h 3 (by decide), accidental_congr h]

theorem grayNote_congr : grayNote gray scale m = grayNote gray scale n := by
  simp only [grayNote, extract_congr h (show 4 ≤ 6 by decide), accidental_congr h]

theorem permuteMask_congr (perm : Fin 6 → Fin 6) : permuteMask perm m = permuteMask perm n := by
  unfold permuteMask
  congr 1
  funext j
  split
  next hj => exact h _ (perm ⟨j.val, hj⟩).isLt
  next => rfl

end

/-- Settles O38: the six bits agree, so each policy reads the same. -/
theorem sixBitPoliciesIgnoreUpperBits : Obligations.SixBitPoliciesIgnoreUpperBits := by
  intro gray scale perm d m n hmod
  have h := sameLowSix_of_mod_eq hmod
  refine ⟨lowBitNote_congr h scale, grayNote_congr h gray scale, ?_⟩
  cases d <;> simp only [strongNote, permuteMask_congr h perm]

/-! ### LowBitBinary (43_decoder R188, R189) -/

/-- Flipping the four low bits keeps the accidental, which reads bits 4 and 5. -/
theorem accidental_xor_low (m : Mask) : accidental (m ^^^ 15#16) = accidental m := by
  simp [accidental]

theorem toNat_xor_low_of_seven {m : Mask} (h : m.toNat % 16 = 7) : (m ^^^ 15#16).toNat % 16 = 8 :=
  calc (m ^^^ 15#16).toNat % 2 ^ 4
      _ = (m.toNat % 2 ^ 4) ^^^ (15 % 2 ^ 4) := by rw [BitVec.toNat_xor, Nat.xor_mod_two_pow]; rfl
      _ = 7 ^^^ (15 % 2 ^ 4) := by rw [show m.toNat % 2 ^ 4 = 7 from h]
      _ = 8 := by decide

section
variable {m : Mask} (scale : Vector (BitVec 8) 7)

theorem lowBitNote_of_seven (h : m.toNat % 16 = 7) :
    lowBitNote scale m = finishNote scale 7 0 (accidental m) := by
  have hdegree : m.toNat % 8 = 7 := by omega
  have hoctave : ¬ m.toNat / 8 % 2 = 1 := by omega
  rw [lowBitNote_eq, hdegree, if_neg hoctave]

theorem lowBitNote_of_eight (h : m.toNat % 16 = 8) :
    lowBitNote scale m = finishNote scale 0 12 (accidental m) := by
  have hdegree : m.toNat % 8 = 0 := by omega
  have hoctave : m.toNat / 8 % 2 = 1 := by omega
  rw [lowBitNote_eq, hdegree, if_pos hoctave]

end

/-- Settles O36: the bits read off, and degree 7 folded to degree 0 one octave up. -/
theorem lowBitReadsTheBits : Obligations.LowBitReadsTheBits := by
  refine fun scale m => ⟨?bits, fun hseven => ?fold⟩
  case bits => rw [lowBitNote_eq, accidental_eq]
  case fold =>
    calc lowBitNote scale m
        _ = finishNote scale 7 0 (accidental m) := lowBitNote_of_seven scale hseven
        _ = finishNote scale 0 12 (accidental m) := finishNote_add_seven scale 0 0 _
        _ = finishNote scale 0 12 (accidental (m ^^^ 15#16)) := by rw [accidental_xor_low]
        _ = lowBitNote scale (m ^^^ 15#16) :=
          (lowBitNote_of_eight scale (toNat_xor_low_of_seven hseven)).symm

/-! ### StrongFinger (43_decoder R198) -/

theorem permuteMask_getLsbD (perm : Fin 6 → Fin 6) (m : Mask) (j : Fin 16) :
    (permuteMask perm m).getLsbD j.val =
      if h : j.val < 6 then m.getLsbD (perm ⟨j.val, h⟩).val else false :=
  maskOf_getLsbD _ j

/-- The identity keeps the six bits; those above it clears. -/
theorem sameLowSix_permuteMask_id (m : Mask) : SameLowSix (permuteMask id m) m := fun j hj => by
  rw [permuteMask_getLsbD id m ⟨j, by omega⟩, dif_pos hj]
  rfl

/-- Settles O40: the delegation is the definition, and with the identity the delegate reads the same bits. -/
theorem strongPermutesThenDelegates : Obligations.StrongPermutesThenDelegates :=
  fun gray scale perm m => ⟨permuteMask_getLsbD perm m, rfl, rfl,
    lowBitNote_congr (sameLowSix_permuteMask_id m) scale,
    grayNote_congr (sameLowSix_permuteMask_id m) gray scale⟩

/-! ### Natural (43_decoder R193 to R195) -/

/-- The register bits as digits: mute when both are clear, else the octave. -/
theorem registerOctave_eq (oct : NatOct) {top next : Nat} (htop : top < 2) (hnext : next < 2) :
    registerOctave oct (decide (top = 1)) (decide (next = 1)) =
      if top = 0 ∧ next = 0 then none
      else some (if top = 1 ∧ next = 1 then 0
        else if top = 1 then (if oct = .topRaises then 12 else -12)
        else (if oct = .topRaises then -12 else 12)) := by
  obtain rfl | rfl : top = 0 ∨ top = 1 := by omega
  · obtain rfl | rfl : next = 0 ∨ next = 1 := by omega
    · rfl
    · cases oct <;> rfl
  · obtain rfl | rfl : next = 0 ∨ next = 1 := by omega
    · cases oct <;> rfl
    · rfl

section
variable {table : Nat → Nat → Option Nat} {oct : NatOct} {scale : Vector (BitVec 8) 7} {n : Nat} {m : Mask}

theorem naturalNote_of_few (h : n < 3) : naturalNote table oct scale n m = noNote := if_pos h

theorem naturalNote_of_mute (h : registerOctave oct (m.getLsbD (n - 1)) (m.getLsbD (n - 2)) = none) :
    naturalNote table oct scale n m = noNote := by
  simp [naturalNote, h]

theorem naturalNote_of_absent (h : table (n - 2) (m.toNat % 2 ^ (n - 2)) = none) :
    naturalNote table oct scale n m = noNote := by
  unfold naturalNote
  split
  next => rfl
  next => split <;> simp [h]

theorem naturalNote_of_entry {o : Int} {e : Nat} (hn : ¬ n < 3)
    (hoct : registerOctave oct (m.getLsbD (n - 1)) (m.getLsbD (n - 2)) = some o)
    (hentry : table (n - 2) (m.toNat % 2 ^ (n - 2)) = some e) :
    naturalNote table oct scale n m = finishNote scale e o 0 := by
  simp [naturalNote, hn, hoct, hentry]

end

/-- `SCALE[0]` and `SCALE[1]` of C major at middle C, by the entries the source fixes (43_decoder R183). -/
theorem scale_of_major_sixty {s : State} (hinv : StateInv s) (hroot : s.root = 60#7) (hmode : s.mode = .major) :
    s.scale[(0 : Fin 7)] = 60#8 ∧ s.scale[(1 : Fin 7)] = 62#8 := by
  have hget : ∀ d : Fin 7, s.scale[d] = BitVec.ofNat 8 (60 + s.params.modeT[(0 : Fin 11)][d]) := by
    intro d
    rw [hinv.scale, hroot, hmode]
    exact scaleOf_get _ _ _ d
  have hzero : s.params.modeT[(0 : Fin 11)][(0 : Fin 7)] = 0 := hinv.params.modeRoot 0
  have hone : s.params.modeT[(0 : Fin 11)][(1 : Fin 7)] = 2 := hinv.params.modeMajor
  exact ⟨(hget 0).trans (by rw [hzero]), (hget 1).trans (by rw [hone])⟩

/-- The Natural policy with 6 pads: the register bits 5 and 4 both set, and the entry of the four hole bits. -/
theorem decodeNote_natural_six {s : State} {m : Mask} {e : Nat} (hpolicy : s.policy = .natural)
    (hnact : s.nact = 6#5) (hregister : m.getLsbD 5 = true ∧ m.getLsbD 4 = true)
    (hentry : natTable 4 (m.toNat % 16) = some e) : s.decodeNote m = finishNote s.scale e 0 0 := by
  have hoct : registerOctave s.params.natOct (m.getLsbD 5) (m.getLsbD 4) = some 0 := by
    obtain ⟨htop, hnext⟩ := hregister
    rw [htop, hnext]
    rfl
  simp only [State.decodeNote, hpolicy, hnact]
  exact naturalNote_of_entry (by decide) hoct hentry

/-- Settles O39, clause by clause: too few channels, mute, an absent entry and an entry; then the three notes
of the source, from the two entries of `NAT_TABLE_4` and the two of the scale that it fixes. -/
theorem naturalReadsTheBits : Obligations.NaturalReadsTheBits := by
  refine ⟨fun table oct scale n m _ => ?bits, fun s hinv hpolicy hnact hroot hmode => ?notes⟩
  case bits =>
    intro top next
    have htop : decide (top = 1) = m.getLsbD (n - 1) := (mask_getLsbD_eq m (n - 1)).symm
    have hnext : decide (next = 1) = m.getLsbD (n - 2) := (mask_getLsbD_eq m (n - 2)).symm
    have hoct := registerOctave_eq oct (top := top) (next := next)
      (Nat.mod_lt _ two_pos) (Nat.mod_lt _ two_pos)
    rw [htop, hnext] at hoct
    split
    next hfew => exact naturalNote_of_few hfew
    next hfew =>
      split
      next hmute => exact naturalNote_of_mute (hoct.trans (if_pos hmute))
      next hmute =>
        split
        next habsent => exact naturalNote_of_absent habsent
        next e hentry => exact naturalNote_of_entry hfew (hoct.trans (if_neg hmute)) hentry
  case notes =>
    obtain ⟨hzero, hone⟩ := scale_of_major_sixty hinv hroot hmode
    refine ⟨?allOpen, ?firstClosed, ?allClosed⟩
    case allOpen =>
      rw [decodeNote_natural_six hpolicy hnact (by decide) (e := 0) rfl, ← hzero]
      exact finishNote_of_degree s.scale (d := 0) (by rw [hzero]; decide)
    case firstClosed =>
      rw [decodeNote_natural_six hpolicy hnact (by decide) (e := 1) rfl, ← hone]
      exact finishNote_of_degree s.scale (d := 1) (by rw [hone]; decide)
    case allClosed =>
      simp only [State.decodeNote, hpolicy, hnact]
      exact naturalNote_of_mute rfl

end Sys2Proof.Machine

/-! PROOF. The words of formats I and CI: every configuration write is one (30_encoding R83, R84). -/

namespace Sys2Proof

/-! ### Format I -/

section
variable (op imm : BitVec 8)

@[simp] theorem opField_encodeI : opField (encodeI op imm) = op :=
  calc opField (encodeI op imm)
      _ = (op ++ 0#16).extractLsb' 16 8 := BitVec.extractLsb'_append_eq_of_le (by decide)
      _ = op := BitVec.extractLsb'_append_eq_left

@[simp] theorem immField_encodeI : immField (encodeI op imm) = imm :=
  BitVec.extractLsb'_append_eq_right

/-- Bits 23:8 of a word of format I. -/
theorem reserved_encodeI : (encodeI op imm).extractLsb' 8 16 = 0#16 :=
  calc (encodeI op imm).extractLsb' 8 16
      _ = (op ++ 0#16).extractLsb' 0 16 := BitVec.extractLsb'_append_eq_of_le (by decide)
      _ = 0#16 := BitVec.extractLsb'_append_eq_right

@[simp] theorem decodeI_encodeI (is : BitVec 8 → Instr) :
    decodeI (encodeI op imm) is = .single (is imm) := by
  simp [decodeI, reserved_encodeI]

end

/-! ### Format CI -/

section
variable (op : BitVec 8) (ch : BitVec 4) (imm : BitVec 8)

@[simp] theorem opField_encodeCI : opField (encodeCI op ch imm) = op :=
  calc opField (encodeCI op ch imm)
      _ = (op ++ 0#4 ++ ch ++ 0#8).extractLsb' 16 8 := BitVec.extractLsb'_append_eq_of_le (by decide)
      _ = (op ++ 0#4 ++ ch).extractLsb' 8 8 := BitVec.extractLsb'_append_eq_of_le (by decide)
      _ = (op ++ 0#4).extractLsb' 4 8 := BitVec.extractLsb'_append_eq_of_le (by decide)
      _ = op := BitVec.extractLsb'_append_eq_left

@[simp] theorem chField_encodeCI : chField (encodeCI op ch imm) = ch :=
  calc chField (encodeCI op ch imm)
      _ = (op ++ 0#4 ++ ch ++ 0#8).extractLsb' 8 4 := BitVec.extractLsb'_append_eq_of_le (by decide)
      _ = (op ++ 0#4 ++ ch).extractLsb' 0 4 := BitVec.extractLsb'_append_eq_of_le (by decide)
      _ = ch := BitVec.extractLsb'_append_eq_right

@[simp] theorem immField_encodeCI : immField (encodeCI op ch imm) = imm :=
  BitVec.extractLsb'_append_eq_right

/-- Bits 23:20 of a word of format CI. -/
theorem highReserved_encodeCI : (encodeCI op ch imm).extractLsb' 20 4 = 0#4 :=
  calc (encodeCI op ch imm).extractLsb' 20 4
      _ = (op ++ 0#4 ++ ch ++ 0#8).extractLsb' 12 4 := BitVec.extractLsb'_append_eq_of_le (by decide)
      _ = (op ++ 0#4 ++ ch).extractLsb' 4 4 := BitVec.extractLsb'_append_eq_of_le (by decide)
      _ = (op ++ 0#4).extractLsb' 0 4 := BitVec.extractLsb'_append_eq_of_le (by decide)
      _ = 0#4 := BitVec.extractLsb'_append_eq_right

/-- Bits 15:8 of a word of format CI. -/
theorem lowReserved_encodeCI : (encodeCI op ch imm).extractLsb' 8 8 = 0#8 :=
  calc (encodeCI op ch imm).extractLsb' 8 8
      _ = (op ++ 0#4 ++ ch ++ 0#8).extractLsb' 0 8 := BitVec.extractLsb'_append_eq_of_le (by decide)
      _ = 0#8 := BitVec.extractLsb'_append_eq_right

@[simp] theorem decodeCI_encodeCI (is : BitVec 4 → BitVec 8 → Instr) :
    decodeCI (encodeCI op ch imm) is = .single (is ch imm) := by
  simp [decodeCI, highReserved_encodeCI, lowReserved_encodeCI]

end

/-! ### The words of the configuration writes (30_encoding R86) -/

section
variable (imm : BitVec 8)

theorem decodeFirst_setn : decodeFirst (encodeI 0x10#8 imm) = .single (.setn imm) := by
  simp [decodeFirst]

theorem decodeFirst_setthr (ch : BitVec 4) :
    decodeFirst (encodeCI 0x11#8 ch imm) = .single (.setthr ch imm) := by
  simp [decodeFirst]

theorem decodeFirst_setthrall : decodeFirst (encodeI 0x12#8 imm) = .single (.setthrall imm) := by
  simp [decodeFirst]

theorem decodeFirst_setsteps : decodeFirst (encodeI 0x13#8 imm) = .single (.setsteps imm) := by
  simp [decodeFirst]

theorem decodeFirst_setexp : decodeFirst (encodeI 0x14#8 imm) = .single (.setexp imm) := by
  simp [decodeFirst]

theorem decodeFirst_setroot : decodeFirst (encodeI 0x15#8 imm) = .single (.setroot imm) := by
  simp [decodeFirst]

theorem decodeFirst_setmode : decodeFirst (encodeI 0x16#8 imm) = .single (.setmode imm) := by
  simp [decodeFirst]

theorem decodeFirst_setpolicy : decodeFirst (encodeI 0x17#8 imm) = .single (.setpolicy imm) := by
  simp [decodeFirst]

end

end Sys2Proof

/-! PROOF. The configuration writes: one register from an operand that fits it, the thresholds, the scale, and
the policy (44_config_diag R220 to R228). -/

namespace Sys2Proof.Machine

open Sys2Proof.Config

/-! ### A register written from the operand (44_config_diag R220) -/

theorem commit_of_legal {legal : Bool} (h : legal = true) (written s : State) :
    s.commit legal written = written.respond 0#32 := by
  subst h; rfl

/-- A guarded write of one register, given by its setter: the register ends as the operand when that is legal,
else as it was. Legal operands fit the register. -/
theorem commit_register {w : Nat} {legal : Prop} [Decidable legal] {imm : BitVec 8} {s : State}
    {write : BitVec w → State} {old : BitVec w} (hold : write old = s) (hfits : legal → imm.toNat < 2 ^ w) :
    ∃ n : BitVec w, s.commit (decide legal) (write (imm.setWidth w)) = (write n).respond 0#32 ∧
      n.toNat = if legal then imm.toNat else old.toNat := by
  by_cases h : legal
  · refine ⟨_, commit_of_legal (decide_eq_true h) _ s, ?_⟩
    rw [if_pos h, BitVec.toNat_setWidth, Nat.mod_eq_of_lt (hfits h)]
  · exact ⟨old, hold ▸ commit_of_illegal (decide_eq_false h) _ s, (if_neg h).symm⟩

/-- Settles O1: NMAX ≤ 16 keeps a legal count within the 5 bits of NACT. -/
theorem setnWritesActiveCount : Obligations.SetnWritesActiveCount := by
  intro s imm hnmax
  obtain ⟨n, hexec, hn⟩ := commit_register (imm := imm) (s := s)
    (legal := 1 ≤ imm.toNat ∧ imm.toNat ≤ s.params.nmax)
    (write := fun n => { s with nact := n }) (old := s.nact) rfl (by omega)
  exact ⟨decodeFirst_setn imm, _, congrArg Host.Outcome.next hexec, rfl, hn, fun a => by cases a <;> rfl⟩

/-- Settles O4: a run length of 1 to 31 fits the 5 bits of STEPS. -/
theorem setstepsWritesRunLength : Obligations.SetstepsWritesRunLength := by
  intro s imm
  obtain ⟨n, hexec, hn⟩ := commit_register (imm := imm) (s := s) (legal := 1 ≤ imm.toNat ∧ imm.toNat ≤ 31)
    (write := fun n => { s with steps := n }) (old := s.steps) rfl (by omega)
  exact ⟨decodeFirst_setsteps imm, n, congrArg Host.Outcome.next hexec, hn⟩

/-- Settles O5: an exponent of at most 8 fits the 4 bits of EXP. -/
theorem setexpWritesExponent : Obligations.SetexpWritesExponent := by
  intro s imm
  obtain ⟨e, hexec, he⟩ := commit_register (imm := imm) (s := s) (legal := imm.toNat ≤ 8)
    (write := fun e => { s with exp := e }) (old := s.exp) rfl (by omega)
  exact ⟨decodeFirst_setexp imm, e, congrArg Host.Outcome.next hexec, he⟩

/-! ### The thresholds (44_config_diag R222, R223) -/

/-- Settles O2: an existing channel alone is written, and an absent one is ignored. -/
theorem setthrWritesOneThreshold : Obligations.SetthrWritesOneThreshold := by
  intro s ch imm
  refine ⟨decodeFirst_setthr imm ch, ?_⟩
  by_cases hch : ch.toNat < s.params.nmax
  · refine ⟨_, congrArg Host.Outcome.next (commit_of_legal (decide_eq_true hch) _ s), rfl, fun i => ?_⟩
    simp [channelIndex, Fin.ext_iff, hch]
  · refine ⟨_, congrArg Host.Outcome.next (commit_of_illegal (decide_eq_false hch) _ s), rfl,
      fun i => ?_⟩
    simp [hch]

/-- Settles O3: every operand is legal, and the channels that exist are those below NMAX. -/
theorem setthrallWritesEveryThreshold : Obligations.SetthrallWritesEveryThreshold := fun s imm =>
  ⟨decodeFirst_setthrall imm, _, rfl, rfl, fun i => by simp [State.commit, State.implemented]⟩

/-! ### The root and the mode, with the scale (44_config_diag R226, R227) -/

/-- No entry of the scale wraps: a root of at most 127 and less than an octave (43_decoder R181). -/
theorem scaleOf_get_toNat {p : Params} (hp : Admissible p) (root : BitVec 7) (mode : Mode) (d : Fin 7) :
    (scaleOf p root mode)[d].toNat = root.toNat + p.modeT[modeNumber mode][d] := by
  have hspan := hp.modeSpan (modeNumber mode) d
  have hroot : root.toNat < 128 := root.isLt
  rw [scaleOf_get, BitVec.toNat_ofNat, Nat.mod_eq_of_lt (by omega)]

/-- Settles O6, by the legality of the root. -/
theorem setrootWritesRootAndScale : Obligations.SetrootWritesRootAndScale := by
  intro s imm hp
  refine ⟨decodeFirst_setroot imm, ?_⟩
  by_cases hr : imm.toNat ≤ 127
  · have hroot : (imm.setWidth 7).toNat = imm.toNat := by bv_omega
    refine ⟨_, _, exec_setroot_of_legal hr s, ?_⟩
    rw [if_pos hr]
    exact ⟨hroot, fun d => hroot ▸ scaleOf_get_toNat hp _ s.mode d⟩
  · refine ⟨s.root, s.scale, exec_of_not_wellFormed nofun (decide_eq_false hr), ?_⟩
    rw [if_neg hr]
    exact ⟨rfl, rfl⟩

/-- The numbers 0 to 10 are the modes (43_decoder R182). -/
theorem modeOfNumber_of_le {n : Nat} (h : n ≤ 10) :
    ∃ m, modeOfNumber n = some m ∧ (modeNumber m).val = n := by
  interval_cases n <;> exact ⟨_, rfl, rfl⟩

/-- A legal mode is written, and the scale of the present root with it. -/
theorem exec_setmode_of_legal {imm : BitVec 8} {m : Mode} (h : modeOfNumber imm.toNat = some m) (s : State) :
    exec (.setmode imm) s = .next { s with
      mode := m
      scale := scaleOf s.params s.root m
      responses := s.answered 0#32 } := by
  simp [exec, execSetmode, h, State.commit, State.respond]

/-- Settles O7, by the legality of the mode. -/
theorem setmodeWritesModeAndScale : Obligations.SetmodeWritesModeAndScale := by
  intro s imm hp
  refine ⟨decodeFirst_setmode imm, ?_⟩
  by_cases hm : imm.toNat ≤ 10
  · obtain ⟨m, hmode, hnumber⟩ := modeOfNumber_of_le hm
    refine ⟨m, _, exec_setmode_of_legal hmode s, ?_⟩
    rw [if_pos hm]
    exact ⟨hnumber, scaleOf_get_toNat hp s.root m⟩
  · refine ⟨s.mode, s.scale, exec_of_not_wellFormed nofun (decide_eq_false hm), ?_⟩
    rw [if_neg hm]
    exact ⟨rfl, rfl⟩

/-! ### The policy and its delegate (44_config_diag R228) -/

/-- The policy of a number 0 to 3 (10_state R35). -/
def policyOfNumber : Nat → Policy
  | 0 => .natural
  | 1 => .lowBit
  | 2 => .gray
  | _ => .strong

/-- The two low bits of an operand as a number. -/
theorem operand_mod_four (imm : BitVec 8) :
    imm.toNat % 4 = 2 * (imm.getLsbD 1).toNat + (imm.getLsbD 0).toNat := by
  simp only [BitVec.getLsbD, Nat.toNat_testBit]
  omega

theorem policyOfOperand_eq (imm : BitVec 8) : policyOfOperand imm = policyOfNumber (imm.toNat % 4) := by
  rw [operand_mod_four, policyOfOperand]
  cases imm.getLsbD 1 <;> cases imm.getLsbD 0 <;> rfl

theorem delegateOfOperand_eq {imm : BitVec 8} (h : imm.toNat ≤ 7) :
    delegateOfOperand imm = if imm.toNat / 4 = 1 then .gray else .lowBit := by
  have hbit : imm.toNat / 4 % 2 = imm.toNat / 4 := Nat.mod_eq_of_lt (by omega)
  simp [delegateOfOperand, BitVec.getLsbD, Nat.testBit_eq_decide_div_mod_eq, hbit]

/-- A legal operand writes the policy and the delegate. -/
theorem exec_setpolicy_of_legal {imm : BitVec 8} (h : imm.toNat ≤ 7) (s : State) :
    exec (.setpolicy imm) s = .next { s with
      policy := policyOfNumber (imm.toNat % 4)
      sfdeleg := if imm.toNat / 4 = 1 then .gray else .lowBit
      responses := s.answered 0#32 } := by
  rw [← policyOfOperand_eq, ← delegateOfOperand_eq h]
  exact congrArg Host.Outcome.next (commit_of_legal (decide_eq_true h) _ s)

/-- Only StrongFinger reads the delegate (10_state R36). -/
theorem decodeNote_sfdeleg {s : State} (h : s.policy ≠ .strong) (d : Delegate) (m : Mask) :
    { s with sfdeleg := d }.decodeNote m = s.decodeNote m := by
  cases hp : s.policy with
  | natural | lowBit | gray => simp only [State.decodeNote, hp]
  | strong => exact absurd hp h

/-- Settles O8, by the legality of the operand. -/
theorem setpolicyWritesPolicyAndDelegate : Obligations.SetpolicyWritesPolicyAndDelegate := by
  refine fun s imm => ⟨decodeFirst_setpolicy imm, ?_, decodeNote_sfdeleg⟩
  split
  next hp => exact exec_setpolicy_of_legal hp s
  next hp => exact exec_of_not_wellFormed nofun (decide_eq_false hp)

end Sys2Proof.Machine

/-! PROOF. The state after reset (70_reset_and_hazards R271). -/

namespace Sys2Proof.Machine

open Sys2Proof.Config

@[simp] theorem launch_chan (p : Params) (i : Fin 16) :
    (State.launch p).chan i = Channel.launch (rawMax p) p.launch.raw[i] p.launch.thr[i] :=
  slots_get _ i

/-- A launched channel has the bounds of a reset one (40_calibrator R111). -/
theorem resetBounds_channelLaunch (rawMax : Nat) (raw : Word) (thr : BitVec 8) :
    (Channel.launch rawMax raw thr).resetBounds rawMax = Channel.launch rawMax raw thr := rfl

/-- Settles O53: each slot holds a launched channel, whose bounds are those of a reset one. -/
theorem resetStateAsStated : Obligations.ResetStateAsStated := by
  refine fun p hp => ⟨fun i _ => ?_, rfl, rfl, rfl⟩
  have hminv := resetBounds_minv_toNat hp.width.2 ((State.launch p).chan i)
  rw [launch_chan, resetBounds_channelLaunch] at hminv
  rw [launch_chan]
  exact ⟨rfl, hminv, rfl, rfl, rfl, rfl⟩

end Sys2Proof.Machine

/-! PROOF. The decoder against the encoder, and a word of a row against its row (30_encoding R80 to R90). -/

namespace Sys2Proof

open Sys2Proof.Machine

/-! ### Decoding the words of a command -/

theorem decode_of_single {w : Word} {i : Instr} (h : decodeFirst w = .single i) (nact : Nat)
    (rest : List Word) : decode nact (w :: rest) = .instr i rest := by
  simp [decode, h]

/-- Settles O41: a frame is cut by its length, and every other command is one word of its format. -/
theorem decodeEncodeAgree : Obligations.DecodeEncodeAgree := by
  intro i nmax nact rest hwf
  cases i with
  | sample frame => exact decode_sample (of_decide_eq_true hwf) rest
  | calrst | poll | gettouch | getnote => exact decode_of_single (by decide) nact rest
  | setn imm => exact decode_of_single (decodeFirst_setn imm) nact rest
  | setthr ch imm => exact decode_of_single (decodeFirst_setthr imm ch) nact rest
  | setthrall imm => exact decode_of_single (decodeFirst_setthrall imm) nact rest
  | setsteps imm => exact decode_of_single (decodeFirst_setsteps imm) nact rest
  | setexp imm => exact decode_of_single (decodeFirst_setexp imm) nact rest
  | setroot imm => exact decode_of_single (decodeFirst_setroot imm) nact rest
  | setmode imm => exact decode_of_single (decodeFirst_setmode imm) nact rest
  | setpolicy imm => exact decode_of_single (decodeFirst_setpolicy imm) nact rest
  | getavg ch => exact decode_of_single (decodeFirst_getavg ch) nact rest
  | getmin ch => exact decode_of_single (decodeFirst_getmin ch) nact rest
  | getmax ch => exact decode_of_single (decodeFirst_getmax ch) nact rest
  | getnorm ch => exact decode_of_single (decodeFirst_getnorm ch) nact rest

/-- Settles O43: the words that the spec prints are the encodings of the commands it names. -/
theorem specWordsDecode : Obligations.SpecWordsDecode :=
  ⟨decodeEncodeAgree (.sample [0x000003E8#32, 0x00000BB8#32]) 16 2 [] rfl,
    decodeEncodeAgree (.setthr 3#4 64#8) 16 2 [] rfl,
    decodeEncodeAgree (.setpolicy PolicyOperand.strongGray.imm) 16 2 [] rfl,
    decodeEncodeAgree (.getmax 15#4) 16 2 [] rfl⟩

/-! ### A word that matches a row (30_encoding R86) -/

/-- A field that the mask selects whole is that field of the pattern. -/
theorem extract_of_and_mask {w mask pattern : Word} {start len : Nat} (h : w &&& mask = pattern)
    (hmask : mask.extractLsb' start len = BitVec.allOnes len) :
    w.extractLsb' start len = pattern.extractLsb' start len := by
  rw [← h, BitVec.extractLsb'_and, hmask, BitVec.and_allOnes]

section
variable {w pattern : Word}

theorem decodeFirst_of_matchesZ (h : w &&& 0xFFFFFFFF#32 = pattern) : decodeFirst w = decodeFirst pattern :=
  congrArg decodeFirst ((BitVec.and_allOnes (x := w)).symm.trans h)

theorem decodeI_of_matches (h : w &&& 0xFFFFFF00#32 = pattern) (hzero : pattern.extractLsb' 8 16 = 0#16)
    (is : BitVec 8 → Instr) : decodeI w is = .single (is (immField w)) :=
  if_pos ((extract_of_and_mask h (by decide)).trans hzero)

theorem decodeC_of_matches (h : w &&& 0xFFF0FFFF#32 = pattern) (hhi : pattern.extractLsb' 20 4 = 0#4)
    (hlo : pattern.extractLsb' 0 16 = 0#16) (is : BitVec 4 → Instr) :
    decodeC w is = .single (is (chField w)) :=
  if_pos ⟨(extract_of_and_mask h (by decide)).trans hhi, (extract_of_and_mask h (by decide)).trans hlo⟩

theorem decodeCI_of_matches (h : w &&& 0xFFF0FF00#32 = pattern) (hhi : pattern.extractLsb' 20 4 = 0#4)
    (hlo : pattern.extractLsb' 8 8 = 0#8) (is : BitVec 4 → BitVec 8 → Instr) :
    decodeCI w is = .single (is (chField w) (immField w)) :=
  if_pos ⟨(extract_of_and_mask h (by decide)).trans hhi, (extract_of_and_mask h (by decide)).trans hlo⟩

end

/-- Row by row: the pattern's opcode selects the format's decoder, and its zero fields are legal. -/
theorem decodeFirst_of_matches (w : Word) : ∀ r ∈ opcodeMap, r.Matches w → decodeFirst w = r.is w := by
  have op {mask pattern : Word} (h : w &&& mask = pattern) (hmask : opField mask = BitVec.allOnes 8) :
      opField w = opField pattern := extract_of_and_mask h hmask
  simp only [opcodeMap, List.forall_mem_cons]
  refine ⟨?sample, ?calrst, ?poll, ?setn, ?setthr, ?setthrall, ?setsteps, ?setexp, ?setroot, ?setmode,
    ?setpolicy, ?getavg, ?getmin, ?getmax, ?getnorm, ?gettouch, ?getnote, List.forall_mem_nil _⟩
  case sample | calrst | poll | gettouch | getnote => exact decodeFirst_of_matchesZ
  case setn | setthrall | setsteps | setexp | setroot | setmode | setpolicy =>
    intro h
    rw [decodeFirst, op h (by decide)]
    exact decodeI_of_matches h (by decide) _
  case setthr =>
    intro h
    rw [decodeFirst, op h (by decide)]
    exact decodeCI_of_matches h (by decide) (by decide) _
  case getavg | getmin | getmax | getnorm =>
    intro h
    rw [decodeFirst, op h (by decide)]
    exact decodeC_of_matches h (by decide) (by decide) _

/-- Settles O42: a word of a row by that row, and a word of no row because a legal word has one. -/
theorem decoderIsTheOpcodeMap : Obligations.DecoderIsTheOpcodeMap := by
  refine fun w => ⟨decodeFirst_of_matches w, fun hnone => ?_⟩
  obtain hillegal | ⟨r, hr, hmatch, -⟩ := decodeFirst_cases w
  · exact hillegal
  · exact absurd hmatch (hnone r hr)

end Sys2Proof

/-! PROOF. What a command that completes can do, said once, and what follows for each register (10_state R40,
R48). -/

namespace Sys2Proof.Machine

/-! ### The effect of a command -/

/-- The states that command `i` can leave of `s`, before its response: `s` itself, for a read and an ignored
command, or the state that the command writes. -/
inductive Effect (s : State) : Instr → State → Prop
  | nothing (i : Instr) : Effect s i s
  | sample {frame : List Word} (hlen : frame.length = s.nact.toNat) :
      Effect s (.sample frame) (s.countSample.foldFrame frame)
  | calrst : Effect s .calrst s.resetBounds
  | polled : Effect s .poll s.pollChannels
  | latched (hchanged : s.pollChannels.freshMask ≠ s.touch) :
      Effect s .poll (s.pollChannels.latchMask s.pollChannels.freshMask)
  | setn {imm : BitVec 8} (hlegal : legalCount s.params imm = true) :
      Effect s (.setn imm) { s with nact := imm.setWidth 5 }
  | setthr {ch : BitVec 4} (imm : BitVec 8) (hlegal : legalChannel s.params ch = true) :
      Effect s (.setthr ch imm)
        (s.mapChans fun i c => if i = channelIndex ch then { c with thr := imm } else c)
  | setthrall (imm : BitVec 8) :
      Effect s (.setthrall imm) (s.mapChans fun i c => if s.implemented i then { c with thr := imm } else c)
  | setsteps {imm : BitVec 8} (hlegal : legalSteps imm = true) :
      Effect s (.setsteps imm) { s with steps := imm.setWidth 5 }
  | setexp {imm : BitVec 8} (hlegal : legalExp imm = true) :
      Effect s (.setexp imm) { s with exp := imm.setWidth 4 }
  | setroot {imm : BitVec 8} (hlegal : legalRoot imm = true) :
      Effect s (.setroot imm)
        { s with root := imm.setWidth 7, scale := scaleOf s.params (imm.setWidth 7) s.mode }
  | setmode {imm : BitVec 8} {m : Mode} (hlegal : modeOfNumber imm.toNat = some m) :
      Effect s (.setmode imm) { s with mode := m, scale := scaleOf s.params s.root m }
  | setpolicy {imm : BitVec 8} (hlegal : legalPolicy imm = true) :
      Effect s (.setpolicy imm) { s with policy := policyOfOperand imm, sfdeleg := delegateOfOperand imm }

section
variable {i : Instr} {s t : State}

theorem effect_of_respond {u : State} {w : Word} (heffect : Effect s i u) (h : exec i s = .next (u.respond w))
    (hexec : exec i s = .next t) : ∃ u w, t = u.respond w ∧ Effect s i u :=
  ⟨u, w, Host.Outcome.next.inj (hexec.symm.trans h), heffect⟩

theorem effect_of_commit {legal : Bool} {written : State} (heffect : legal = true → Effect s i written)
    (h : exec i s = .next (s.commit legal written)) (hexec : exec i s = .next t) :
    ∃ u w, t = u.respond w ∧ Effect s i u := by
  obtain ⟨hlegal, hc⟩ | ⟨-, hc⟩ := commit_cases legal written s
  · exact effect_of_respond (heffect hlegal) (hc ▸ h) hexec
  · exact effect_of_respond (.nothing i) (hc ▸ h) hexec

/-- A command that completes responds after its effect, and does nothing else. -/
theorem exec_effect (h : exec i s = .next t) : ∃ u w, t = u.respond w ∧ Effect s i u := by
  cases i with
  | sample frame =>
    by_cases hlen : frame.length = s.nact.toNat
    · exact effect_of_respond (.sample hlen) (exec_sample hlen) h
    · rw [exec, execSample, if_neg hlen] at h
      cases h
  | calrst => exact effect_of_respond .calrst rfl h
  | poll =>
    by_cases hsame : s.pollChannels.freshMask = s.touch
    · exact effect_of_respond .polled (exec_poll_of_same hsame) h
    · exact effect_of_respond (.latched hsame) (exec_poll_of_changed hsame) h
  | setn imm => exact effect_of_commit .setn rfl h
  | setthr ch imm => exact effect_of_commit (.setthr imm) rfl h
  | setthrall imm => exact effect_of_commit (fun _ => .setthrall imm) rfl h
  | setsteps imm => exact effect_of_commit .setsteps rfl h
  | setexp imm => exact effect_of_commit .setexp rfl h
  | setroot imm => exact effect_of_commit .setroot rfl h
  | setmode imm =>
    cases hm : modeOfNumber imm.toNat with
    | none =>
      exact effect_of_commit (legal := false) (written := s) nofun (by simp only [exec, execSetmode, hm]) h
    | some m => exact effect_of_respond (.setmode hm) (exec_setmode_of_legal hm s) h
  | setpolicy imm => exact effect_of_commit .setpolicy rfl h
  | getavg ch => exact effect_of_respond (.nothing _) (exec_getavg ch s) h
  | getmin ch => exact effect_of_respond (.nothing _) (exec_getmin ch s) h
  | getmax ch => exact effect_of_respond (.nothing _) (exec_getmax ch s) h
  | getnorm ch => exact effect_of_respond (.nothing _) (exec_getnorm ch s) h
  | gettouch => exact effect_of_respond (.nothing _) (exec_gettouch s) h
  | getnote => exact effect_of_respond (.nothing _) (exec_getnote s) h

end

/-! ### The registers of the state that a command leaves alone -/

/-- What a write leaves of a channel, a guarded write leaves too. -/
theorem get_ite {α : Type} {get : Channel → α} {p : Prop} [Decidable p] {written c : Channel}
    (hget : get written = get c) : get (if p then written else c) = get c := by
  split
  · exact hget
  · rfl

namespace Effect

section
variable {i : Instr} {s u : State} (h : Effect s i u)
include h

theorem params_eq : u.params = s.params := by
  cases h with
  | sample => simp
  | _ => rfl

theorem producer_eq : u.producer = s.producer := by
  cases h with
  | sample => simp
  | _ => rfl

theorem consumer_eq : u.consumer = s.consumer := by
  cases h with
  | sample => simp
  | _ => rfl

theorem cnt_eq (hi : ∀ frame, i ≠ .sample frame) : u.cnt = s.cnt := by
  cases h with
  | sample => exact absurd rfl (hi _)
  | _ => rfl

theorem mask_note_eq (hi : i ≠ .poll) :
    u.touch = s.touch ∧ u.lastnote = s.lastnote ∧ u.notes = s.notes := by
  cases h with
  | sample => simp
  | polled | latched => exact absurd rfl hi
  | _ => exact ⟨rfl, rfl, rfl⟩

theorem nact_eq (hi : ∀ imm, i ≠ .setn imm) : u.nact = s.nact := by
  cases h with
  | sample => simp
  | setn => exact absurd rfl (hi _)
  | _ => rfl

theorem steps_eq (hi : ∀ imm, i ≠ .setsteps imm) : u.steps = s.steps := by
  cases h with
  | sample => simp
  | setsteps => exact absurd rfl (hi _)
  | _ => rfl

theorem exp_eq (hi : ∀ imm, i ≠ .setexp imm) : u.exp = s.exp := by
  cases h with
  | sample => simp
  | setexp => exact absurd rfl (hi _)
  | _ => rfl

theorem root_eq (hi : ∀ imm, i ≠ .setroot imm) : u.root = s.root := by
  cases h with
  | sample => simp
  | setroot => exact absurd rfl (hi _)
  | _ => rfl

theorem mode_eq (hi : ∀ imm, i ≠ .setmode imm) : u.mode = s.mode := by
  cases h with
  | sample => simp
  | setmode => exact absurd rfl (hi _)
  | _ => rfl

theorem policy_eq (hi : ∀ imm, i ≠ .setpolicy imm) : u.policy = s.policy ∧ u.sfdeleg = s.sfdeleg := by
  cases h with
  | sample => simp
  | setpolicy => exact absurd rfl (hi _)
  | _ => exact ⟨rfl, rfl⟩

theorem scale_eq (hroot : ∀ imm, i ≠ .setroot imm) (hmode : ∀ imm, i ≠ .setmode imm) :
    u.scale = s.scale := by
  cases h with
  | sample => simp
  | setroot => exact absurd rfl (hroot _)
  | setmode => exact absurd rfl (hmode _)
  | _ => rfl

/-! ### The registers of a channel -/

/-- What is read of a channel stays when the writes of the command leave it: the fold, the reset of the
bounds, the poll, and the threshold. -/
theorem chan_eq {α : Type} {get : Channel → α}
    (hfold : ∀ frame, i = .sample frame → ∀ m e r c, get (Channel.fold m e r c) = get c)
    (hreset : (i = .calrst ∨ ∃ frame, i = .sample frame) → ∀ m c, get (Channel.resetBounds m c) = get c)
    (hpoll : i = .poll → ∀ rebase steps c, get (Channel.poll rebase steps c) = get c)
    (hthr : ((∃ ch imm, i = .setthr ch imm) ∨ ∃ imm, i = .setthrall imm) →
      ∀ (c : Channel) imm, get { c with thr := imm } = get c) (k : Fin 16) :
    get (u.chan k) = get (s.chan k) := by
  cases h with
  | @sample frame =>
    have hcount : get (s.countSample.chan k) = get (s.chan k) := by
      rw [countSample_chan]
      exact get_ite (hreset (.inr ⟨frame, rfl⟩) _ _)
    rw [foldFrame_chan, ← hcount]
    exact get_ite (hfold frame rfl _ _ _ _)
  | calrst =>
    rw [resetBounds_chan]
    exact get_ite (hreset (.inl rfl) _ _)
  | polled | latched =>
    change get (s.pollChannels.chan k) = get (s.chan k)
    rw [pollChannels_chan]
    exact get_ite (hpoll rfl _ _ _)
  | @setthr ch imm =>
    rw [mapChans_chan]
    exact get_ite (hthr (.inl ⟨ch, imm, rfl⟩) _ _)
  | setthrall imm =>
    rw [mapChans_chan]
    exact get_ite (hthr (.inr ⟨imm, rfl⟩) _ _)
  | _ => rfl

theorem raw_avg_eq (hi : ∀ frame, i ≠ .sample frame) (k : Fin 16) :
    (u.chan k).raw = (s.chan k).raw ∧ (u.chan k).avg = (s.chan k).avg :=
  Prod.mk.inj (h.chan_eq (get := fun c => (c.raw, c.avg)) (fun frame hframe => absurd hframe (hi frame))
    (fun _ _ _ => rfl) (fun _ _ _ _ => rfl) (fun _ _ _ => rfl) k)

theorem norm_debounce_eq (hi : i ≠ .poll) (k : Fin 16) :
    (u.chan k).norm = (s.chan k).norm ∧ (u.chan k).dbv = (s.chan k).dbv ∧
      (u.chan k).dbf = (s.chan k).dbf := by
  simpa only [Prod.mk.injEq] using h.chan_eq (get := fun c => (c.norm, c.dbv, c.dbf))
    (fun _ _ _ _ _ _ => rfl) (fun _ _ _ => rfl) (fun hpoll => absurd hpoll hi) (fun _ _ _ => rfl) k

theorem thr_eq (hone : ∀ ch imm, i ≠ .setthr ch imm) (hall : ∀ imm, i ≠ .setthrall imm) (k : Fin 16) :
    (u.chan k).thr = (s.chan k).thr :=
  h.chan_eq (get := Channel.thr) (fun _ _ _ _ _ _ => rfl) (fun _ _ _ => rfl) (fun _ _ _ _ => rfl)
    (fun hthr => hthr.elim (fun ⟨ch, imm, hi⟩ => absurd hi (hone ch imm))
      fun ⟨imm, hi⟩ => absurd hi (hall imm)) k

end

end Effect

/-- Settles O48, register by register: each is left alone by every effect but its writers'. -/
theorem registersChangeOnlyByTheirWriters : Obligations.RegistersChangeOnlyByTheirWriters := by
  intro i s t h
  have hbounds : (∀ frame, i ≠ .sample frame) → i ≠ .calrst → SameBounds s t :=
    fun hsample hcalrst => sameBounds_exec h hcalrst hsample
  obtain ⟨u, w, rfl, heffect⟩ := exec_effect h
  refine ⟨fun hi => ⟨heffect.cnt_eq hi, heffect.raw_avg_eq hi⟩, hbounds, fun hi => ?poll, heffect.thr_eq,
    heffect.nact_eq, heffect.steps_eq, heffect.exp_eq, heffect.root_eq, heffect.mode_eq,
    heffect.policy_eq, heffect.scale_eq⟩
  case poll =>
    obtain ⟨htouch, hnote, hnotes⟩ := heffect.mask_note_eq hi
    exact ⟨htouch, hnote, hnotes, heffect.norm_debounce_eq hi⟩

end Sys2Proof.Machine

/-! PROOF. The interface of a step: what serving an agent changes, and which events a step can emit (20_memory
R66, 60_exceptions R254, 70_reset_and_hazards R270). -/

namespace Sys2Proof.Machine

/-! ### Operations on the interface keep the registers -/

theorem sameRegisters_take (s : State) (a : Agent) (rest : List Word) : SameRegisters s (s.take a rest) := by
  cases a <;> rfl

theorem sameRegisters_present (s : State) (a : Agent) (ws : List Word) :
    SameRegisters s (s.present a ws) := by
  cases a <;> rfl

theorem sameRegisters_releaseReset {s : State} (h : s.resetPin = true) :
    SameRegisters (State.launch s.params) s.releaseReset := by
  obtain ⟨hpin, -⟩ | ⟨-, heq⟩ := releaseReset_cases s
  · simp [h] at hpin
  · rw [heq]; rfl

/-- Releasing RESET keeps the interface. -/
theorem releaseReset_interface (s : State) :
    (∀ a, s.releaseReset.words a = s.words a) ∧ s.releaseReset.responses = s.responses ∧
      s.releaseReset.notes = s.notes := by
  obtain ⟨-, heq⟩ | ⟨-, heq⟩ := releaseReset_cases s
  · rw [heq]; exact ⟨fun _ => rfl, rfl, rfl⟩
  · rw [heq]; exact ⟨fun a => by cases a <;> rfl, rfl, rfl⟩

/-- The words of the agent that is not served stay. -/
theorem take_words_other {a b : Agent} (h : b ≠ a) (rest : List Word) (s : State) :
    (s.take a rest).words b = s.words b := by
  cases a with
  | producer =>
    cases b with
    | producer => exact absurd rfl h
    | consumer => rfl
  | consumer =>
    cases b with
    | producer => rfl
    | consumer => exact absurd rfl h

/-- Settles O44: the step of a served agent, and what serving it changes. -/
theorem stepRunsTheDecodedCommand : Obligations.StepRunsTheDecodedCommand := fun s a _ rest h =>
  ⟨step_of_serves_instr h, sameRegisters_take s a rest, take_words a rest s, take_issuer a rest s,
    fun _ hb => take_words_other hb rest s, take_responses a rest s, take_notes a rest s⟩

/-- Settles O54, by the two cases of a release. -/
theorem releasedResetLeavesTheResetState : Obligations.ReleasedResetLeavesTheResetState := by
  intro s
  obtain ⟨hwords, hresponses, hnotes⟩ := releaseReset_interface s
  refine ⟨rfl, rfl, sameRegisters_releaseReset rfl, releaseReset_resetPin s, sameRegisters_releaseReset,
    fun hpin => ?_, fun a => ⟨by cases a <;> rfl, hwords a⟩, hresponses, hnotes⟩
  simp [State.releaseReset, hpin]

/-- Settles O55: such a step is a device reset. -/
theorem assertedResetResetsEveryRegister : Obligations.AssertedResetResetsEveryRegister := fun s hpin =>
  ⟨s.deviceReset, if_pos hpin, rfl, hpin, rfl, rfl, rfl, rfl⟩

/-! ### A released step, by what it served -/

/-- A step resets, idles, or serves one agent's command or illegal word. -/
theorem step_served {s t : State} (h : step s = .next t) :
    (s.resetPin = true ∧ t = s.deviceReset) ∨ (s.resetPin = false ∧ s.fetch = .idle ∧ t = s) ∨
      (∃ a i rest u w, Serves s a (.instr i rest) ∧ exec i (s.take a rest) = .next t ∧
        Effect (s.take a rest) i u ∧ t = u.respond w) ∨
      ∃ a why rest, Serves s a (.illegal why rest) ∧ t = (s.take a rest).ignore := by
  obtain hreset | hidle | ⟨hpin, i, _, hfetch, hexec⟩ | ⟨hpin, why, _, hfetch, rfl⟩ := step_cases h
  · exact .inl hreset
  · exact .inr (.inl hidle)
  · obtain ⟨a, rest, hsel, hdec, rfl⟩ := fetch_command hfetch
    obtain ⟨u, w, ht, heffect⟩ := exec_effect hexec
    exact .inr (.inr (.inl ⟨a, i, rest, u, w, ⟨hpin, hsel, hdec⟩, hexec, heffect, ht⟩))
  · obtain ⟨a, rest, hsel, hdec, rfl⟩ := fetch_illegal hfetch
    exact .inr (.inr (.inr ⟨a, why, rest, ⟨hpin, hsel, hdec⟩, rfl⟩))

/-- Settles O59: no effect writes them, and serving an agent does not. -/
theorem parametersNeverChange : Obligations.ParametersNeverChange := by
  intro s t h
  obtain ⟨-, rfl⟩ | ⟨-, -, rfl⟩ | ⟨a, i, rest, u, w, -, -, heffect, rfl⟩ | ⟨a, why, rest, -, rfl⟩ :=
    step_served h
  · rfl
  · rfl
  · exact heffect.params_eq.trans (take_params a rest s)
  · exact take_params a rest s

/-- The events of a command: none, or by a `POLL` that changes the mask the note that it caches. -/
theorem Effect.notes_cases {s u : State} {i : Instr} (h : Effect s i u) :
    u.notes = s.notes ∨ (u.notes = s.notes ++ [u.lastnote] ∧ u.touch ≠ s.touch ∧ i = .poll) := by
  cases h with
  | sample => simp
  | latched hchanged => exact .inr ⟨rfl, hchanged, rfl⟩
  | _ => exact .inl rfl

/-- Settles O47: of all steps only a served `POLL` that latches a new mask emits. -/
theorem onlyAChangingPollEmits : Obligations.OnlyAChangingPollEmits := by
  intro s t h
  obtain ⟨-, rfl⟩ | ⟨-, -, rfl⟩ | ⟨a, i, rest, u, w, hserves, -, heffect, rfl⟩ | ⟨a, why, rest, -, rfl⟩ :=
    step_served h
  · exact .inl rfl
  · exact .inl rfl
  · obtain hkeep | ⟨hemit, htouch, rfl⟩ := heffect.notes_cases
    · exact .inl (hkeep.trans (take_notes a rest s))
    · rw [take_notes] at hemit
      rw [take_touch] at htouch
      exact .inr ⟨hemit, htouch, a, rest, hserves⟩
  · exact .inl (take_notes a rest s)

/-! ### The streams of words (20_memory R66) -/

/-- What a command leaves of a stream is its end. -/
theorem suffix_of_decode_instr {nact : Nat} {ws rest : List Word} {i : Instr}
    (h : decode nact ws = .instr i rest) : rest <:+ ws := by
  cases ws with
  | nil => cases h
  | cons w tail =>
    unfold decode at h
    cases hw : decodeFirst w with
    | illegal why => simp only [hw] at h; cases h
    | single j => simp only [hw] at h; cases h; exact List.suffix_cons w rest
    | sampleHeader =>
      simp only [hw] at h
      split at h
      next => cases h
      next => cases h; exact (List.drop_suffix nact tail).trans (List.suffix_cons w tail)

theorem suffix_of_decode_illegal {nact : Nat} {ws rest : List Word} {why : IllegalWord}
    (h : decode nact ws = .illegal why rest) : rest <:+ ws := by
  obtain ⟨w, rfl⟩ := words_of_decode_illegal h
  exact List.suffix_cons w rest

/-- Serving agent `a` cuts its stream and leaves the other's. -/
theorem take_streams {s : State} {a : Agent} {rest : List Word} (h : rest <:+ s.words a) :
    ((s.take a rest).producer = s.producer ∧ (s.take a rest).consumer <:+ s.consumer) ∨
      ((s.take a rest).consumer = s.consumer ∧ (s.take a rest).producer <:+ s.producer) := by
  cases a with
  | producer => exact .inr ⟨rfl, h⟩
  | consumer => exact .inl ⟨rfl, h⟩

/-- Settles O50: effects leave the streams, and serving takes from the front of one. -/
theorem agentStreamsKeepTheirOrder : Obligations.AgentStreamsKeepTheirOrder := by
  intro s t h
  obtain ⟨-, rfl⟩ | ⟨-, -, rfl⟩ | ⟨a, i, rest, u, w, ⟨-, -, hdec⟩, -, heffect, rfl⟩ |
    ⟨a, why, rest, ⟨-, -, hdec⟩, rfl⟩ := step_served h
  · exact .inl ⟨rfl, List.suffix_rfl⟩
  · exact .inl ⟨rfl, List.suffix_rfl⟩
  · rw [respond_producer, respond_consumer, heffect.producer_eq, heffect.consumer_eq]
    exact take_streams (suffix_of_decode_instr hdec)
  · exact take_streams (suffix_of_decode_illegal hdec)

end Sys2Proof.Machine

/-! PROOF. The invariant: the reset state meets it, and every effect, step and input keeps it (10_state R41 to
R47). -/

namespace Sys2Proof.Machine

open Sys2Proof.Config

/-! ### The invariant of one channel under the writes of a channel -/

namespace ChannelInv

section
variable {m : Nat} {c : Channel}

/-- Freshly reset bounds need nothing of the old ones. -/
theorem resetBounds (h : ChannelInv m c) (hm : m < 2 ^ 32) : ChannelInv m (c.resetBounds m) :=
  have hmin : (c.resetBounds m).minv.toNat = m := Nat.mod_eq_of_lt hm
  { raw := h.raw, avg := h.avg, minv := hmin.le, maxv := Nat.zero_le m, bounds := .inl ⟨hmin, rfl⟩ }

/-- What is fed to the smoother is a W-bit value. -/
theorem smootherInput_le (h : ChannelInv m c) {r : Word} (hr : r.toNat ≤ m) :
    smootherInput m c.minv r ≤ m := by
  unfold smootherInput
  split
  · exact h.minv
  · exact hr

theorem folded_le (h : ChannelInv m c) {r : Word} (hr : r.toNat ≤ m) (e : Nat) : c.folded m e r ≤ m :=
  smooth_le h.avg (h.smootherInput_le hr)

/-- The fold encloses the average that it computes (40_calibrator R121). -/
theorem fold (h : ChannelInv m c) {r : Word} (hr : r.toNat ≤ m) (e : Nat) : ChannelInv m (c.fold m e r) where
  raw := hr
  avg := by rw [fold_avg_toNat]; exact h.folded_le hr e
  minv := by rw [fold_minv_toNat]; exact (Nat.min_le_left _ _).trans h.minv
  maxv := by rw [fold_maxv_toNat]; exact Nat.max_le.mpr ⟨h.maxv, h.folded_le hr e⟩
  bounds := .inr (fold_brackets m e r c)

theorem poll (h : ChannelInv m c) (rebase : Bool) (steps : Nat) : ChannelInv m (c.poll rebase steps) :=
  ⟨h.raw, h.avg, h.minv, h.maxv, h.bounds⟩

theorem setThr (h : ChannelInv m c) (imm : BitVec 8) : ChannelInv m { c with thr := imm } :=
  ⟨h.raw, h.avg, h.minv, h.maxv, h.bounds⟩

end

/-- A channel after reset (10_state R47). -/
theorem launch {m : Nat} (hm : m < 2 ^ 32) {raw : Word} (hraw : raw.toNat ≤ m) (thr : BitVec 8) :
    ChannelInv m (Channel.launch m raw thr) :=
  have hmin : (Channel.launch m raw thr).minv.toNat = m := Nat.mod_eq_of_lt hm
  { raw := hraw, avg := Nat.zero_le m, minv := hmin.le, maxv := Nat.zero_le m, bounds := .inl ⟨hmin, rfl⟩ }

end ChannelInv

/-- A sample is a W-bit value (30_encoding R85). -/
theorem sampleOf_le_rawMax (p : Params) (payload : Word) : (sampleOf p payload).toNat ≤ rawMax p := by
  rw [sampleOf_toNat]
  exact Nat.le_pred_of_lt (Nat.mod_lt _ (Nat.two_pow_pos p.w))

/-- An operand that fits a narrower register is written unchanged. -/
theorem toNat_operand {w : Nat} {imm : BitVec 8} (h : imm.toNat < 2 ^ w) :
    (imm.setWidth w).toNat = imm.toNat := by
  rw [BitVec.toNat_setWidth, Nat.mod_eq_of_lt h]

/-! ### The invariant of the state under the effects -/

namespace StateInv

/-- The reset state meets the invariant (10_state R47). -/
theorem launch {p : Params} (hp : Admissible p) : StateInv (State.launch p) where
  params := hp
  chans i := by rw [launch_chan]; exact .launch (rawMax_lt_cell hp.width.2) (hp.launchRaw i) _
  nact := hp.launchNact
  steps := hp.launchSteps
  exp := hp.launchExp
  scale := rfl
  touch _ _ := BitVec.getLsbD_zero
  lastnote := .inr rfl

section
variable {s : State} (h : StateInv s)
include h

theorem rawMax_lt : rawMax s.params < 2 ^ 32 := rawMax_lt_cell h.params.width.2

/-- The invariant is about the registers only. -/
theorem of_sameRegisters {t : State} (hsame : SameRegisters s t) : StateInv t := by
  rw [hsame]
  exact ⟨h.params, h.chans, h.nact, h.steps, h.exp, h.scale, h.touch, h.lastnote⟩

theorem mapChans {f : Fin 16 → Channel → Channel}
    (hf : ∀ i c, ChannelInv (rawMax s.params) c → ChannelInv (rawMax s.params) (f i c)) :
    StateInv (s.mapChans f) where
  params := h.params
  chans i := by rw [mapChans_chan]; exact hf i _ (h.chans i)
  nact := h.nact
  steps := h.steps
  exp := h.exp
  scale := h.scale
  touch := h.touch
  lastnote := h.lastnote

theorem resetBounds : StateInv s.resetBounds :=
  h.mapChans fun _ c hc => by
    split
    · exact hc.resetBounds h.rawMax_lt
    · exact hc

theorem countSample : StateInv s.countSample := by
  have hcounted : StateInv { s with cnt := s.cnt + 1#8 } :=
    ⟨h.params, h.chans, h.nact, h.steps, h.exp, h.scale, h.touch, h.lastnote⟩
  unfold State.countSample
  dsimp only
  split
  · exact hcounted.resetBounds
  · exact hcounted

theorem foldFrame (frame : List Word) : StateInv (s.foldFrame frame) :=
  h.mapChans fun _ c hc => by
    split
    · exact hc.fold (sampleOf_le_rawMax s.params _) _
    · exact hc

theorem pollChannels : StateInv s.pollChannels :=
  h.mapChans fun _ c hc => by
    split
    · exact hc.poll _ _
    · exact hc

/-- A fresh mask has no bit at or above NACT, so none at or above NMAX (10_state R38). -/
theorem freshMask_getLsbD_of_ge {i : Fin 16} (hi : s.params.nmax ≤ i.val) :
    s.freshMask.getLsbD i.val = false := by
  have hinactive : ¬ i.val < s.nact.toNat := by have := h.nact; omega
  rw [freshMask_getLsbD, State.active, decide_eq_false hinactive, Bool.false_and]

theorem latchFresh : StateInv (s.latchMask s.freshMask) where
  params := h.params
  chans := h.chans
  nact := h.nact
  steps := h.steps
  exp := h.exp
  scale := h.scale
  touch _ := h.freshMask_getLsbD_of_ge
  lastnote := isNote_decodeNote s s.freshMask

/-- A legal count fits NACT (44_config_diag R221). -/
theorem setn {imm : BitVec 8} (hlegal : legalCount s.params imm = true) :
    StateInv { s with nact := imm.setWidth 5 } := by
  have hbound : 1 ≤ imm.toNat ∧ imm.toNat ≤ s.params.nmax := of_decide_eq_true hlegal
  have hmax := h.params.nmax
  have hfits : (imm.setWidth 5).toNat = imm.toNat := toNat_operand (by omega)
  exact { h with nact := by rw [hfits]; exact hbound }

theorem setsteps {imm : BitVec 8} (hlegal : legalSteps imm = true) :
    StateInv { s with steps := imm.setWidth 5 } := by
  have hbound : 1 ≤ imm.toNat ∧ imm.toNat ≤ 31 := of_decide_eq_true hlegal
  have hfits : (imm.setWidth 5).toNat = imm.toNat := toNat_operand (by omega)
  exact { h with steps := by rw [hfits]; exact hbound.1 }

theorem setexp {imm : BitVec 8} (hlegal : legalExp imm = true) :
    StateInv { s with exp := imm.setWidth 4 } := by
  have hbound : imm.toNat ≤ 8 := of_decide_eq_true hlegal
  have hfits : (imm.setWidth 4).toNat = imm.toNat := toNat_operand (by omega)
  exact { h with exp := by rw [hfits]; exact hbound }

/-- A root and a mode written with the scale of both (10_state R44). -/
theorem setScale (root : BitVec 7) (mode : Mode) :
    StateInv { s with root := root, mode := mode, scale := scaleOf s.params root mode } :=
  { h with scale := rfl }

/-- Every effect of a command keeps the invariant. -/
theorem effect {i : Instr} {u : State} (heffect : Effect s i u) : StateInv u := by
  cases heffect with
  | nothing => exact h
  | sample => exact h.countSample.foldFrame _
  | calrst => exact h.resetBounds
  | polled => exact h.pollChannels
  | latched => exact h.pollChannels.latchFresh
  | setn hlegal => exact h.setn hlegal
  | setthr | setthrall =>
    exact h.mapChans fun _ c hc => by
      split
      · exact hc.setThr _
      · exact hc
  | setsteps hlegal => exact h.setsteps hlegal
  | setexp hlegal => exact h.setexp hlegal
  | setroot => exact h.setScale _ s.mode
  | setmode => exact h.setScale s.root _
  | setpolicy => exact { h with }

theorem deviceReset : StateInv s.deviceReset := (launch h.params).of_sameRegisters rfl

theorem releaseReset : StateInv s.releaseReset := by
  obtain ⟨-, heq⟩ | ⟨-, heq⟩ := releaseReset_cases s
  · rw [heq]; exact h
  · rw [heq]; exact h.deviceReset.of_sameRegisters rfl

end

end StateInv

/-- Settles O56: the reference parameters are admissible, and the launch state meets the invariant by
construction. -/
theorem launchMeetsTheInvariant : Obligations.LaunchMeetsTheInvariant :=
  ⟨by constructor <;> decide, rfl, fun _ => StateInv.launch⟩

/-- Settles O57: serving an agent and responding change no register, and every effect keeps the invariant. -/
theorem stepKeepsTheInvariant : Obligations.StepKeepsTheInvariant := by
  intro s t hinv h
  obtain ⟨-, rfl⟩ | ⟨-, -, rfl⟩ | ⟨a, i, rest, u, w, -, -, heffect, rfl⟩ | ⟨a, why, rest, -, rfl⟩ :=
    step_served h
  · exact hinv.deviceReset
  · exact hinv
  · have htaken : StateInv (s.take a rest) := hinv.of_sameRegisters (sameRegisters_take s a rest)
    exact (htaken.effect heffect).of_sameRegisters rfl
  · exact hinv.of_sameRegisters (sameRegisters_take_ignore s a rest)

/-- Settles O58: words and schedule are no registers, and RESET brings the launch state back. -/
theorem inputsKeepTheInvariant : Obligations.InputsKeepTheInvariant := fun s a ws _ hinv =>
  ⟨⟨hinv.of_sameRegisters (sameRegisters_present s a ws), hinv.of_sameRegisters rfl,
    hinv.deviceReset.of_sameRegisters rfl, hinv.releaseReset⟩, sameRegisters_present s a ws, rfl⟩

/-! ### What the invariant says of the calibrator -/

/-- A range of at least 5 is not that of freshly reset bounds, so it encloses the average
(40_calibrator R128). -/
theorem ChannelInv.encloses_of_wide {m : Nat} {c : Channel} (h : ChannelInv m c)
    (hwide : c.minv.toNat + 5 ≤ c.maxv.toNat) :
    c.minv.toNat ≤ c.avg.toNat ∧ c.avg.toNat ≤ c.maxv.toNat := by
  obtain ⟨hmin, hmax⟩ | hencloses := h.bounds
  · omega
  · exact hencloses

/-- Within a wide range the clamp at 255 decides nothing. -/
theorem normalized_of_enclosed {a lo hi : Nat} (hwide : lo + 5 ≤ hi) (ha : a ≤ hi) :
    normalized a lo hi = 255 * (a - lo) / (hi - lo) := by
  rw [normalized_of_wide hwide]
  refine min_eq_right (Nat.div_le_of_le_mul ?_)
  rw [Nat.mul_comm]
  gcongr

/-- Settles O21: a wide range encloses the average. -/
theorem normalizeClampsUnreachable : Obligations.NormalizeClampsUnreachable := fun _ i hinv hwide =>
  normalized_of_enclosed hwide ((hinv.chans i).encloses_of_wide hwide).2

/-- After a reset of its bounds a channel folds to bounds that both are the average (40_calibrator R111). -/
theorem fold_collapses_reset {m : Nat} {c : Channel} (h : ChannelInv m c) (hm : m < 2 ^ 32) {r : Word}
    (hr : r.toNat ≤ m) (e : Nat) :
    ((c.resetBounds m).fold m e r).minv = ((c.resetBounds m).fold m e r).avg ∧
      ((c.resetBounds m).fold m e r).maxv = ((c.resetBounds m).fold m e r).avg := by
  have hfolded := (h.resetBounds hm).folded_le hr e
  have hmin : (c.resetBounds m).minv.toNat = m := Nat.mod_eq_of_lt hm
  constructor
  · apply BitVec.eq_of_toNat_eq
    rw [fold_minv_toNat, fold_avg_toNat, hmin]
    exact Nat.min_eq_right hfolded
  · apply BitVec.eq_of_toNat_eq
    rw [fold_maxv_toNat, fold_avg_toNat, resetBounds_maxv_toNat]
    exact Nat.max_eq_right (Nat.zero_le _)

/-- Settles O13: the wrap resets each channel that exists, and the fold then acts on the active ones. -/
theorem automaticResetPrecedesTheFold : Obligations.AutomaticResetPrecedesTheFold := by
  intro s frame hinv hlen hcnt
  refine ⟨_, exec_sample hlen, by simp [hcnt], fun i hi => ?_⟩
  have hcount : s.countSample.chan i = (s.chan i).resetBounds (rawMax s.params) :=
    countSample_chan_of_resets ⟨hcnt, hi⟩
  split
  next hactive =>
    rw [sampled_chan_of_active frame hactive, hcount]
    exact fold_collapses_reset (hinv.chans i) hinv.rawMax_lt (sampleOf_le_rawMax s.params _) _
  next hinactive =>
    rw [sampled_chan_of_inactive frame hinactive, hcount]
    exact ⟨resetBounds_minv_toNat hinv.params.width.2 _, rfl, rfl⟩

end Sys2Proof.Machine

/-! PROOF. The smoother over the integers, the debouncer under a longer run length, and GrayCode (40_calibrator
R114, 41_debouncer R148, R149, 43_decoder R191, R192). -/

namespace Sys2Proof.Machine

/-- The average times 2^e divides exactly, so the floor falls on the difference alone. -/
theorem smooth_int (e avg val : Nat) :
    (smooth e avg val : Int) = (avg : Int) + ((val : Int) - avg) / 2 ^ e := by
  have hpos : 0 < 2 ^ e := Nat.two_pow_pos e
  calc (smooth e avg val : Int)
      _ = ((2 ^ e - 1) * avg + val) / 2 ^ e := by
        rw [smooth]; push_cast [Nat.one_le_iff_ne_zero.mpr hpos.ne']; rfl
      _ = ((val - avg) + avg * 2 ^ e) / 2 ^ e := by congr 1; ring
      _ = (val - avg) / 2 ^ e + avg := Int.add_mul_ediv_right _ _ (by positivity)
      _ = avg + (val - avg) / 2 ^ e := Int.add_comm _ _

/-- Settles O17: the integer form, and with exponent 0 the quotient by 1. -/
theorem smootherEquivalentForm : Obligations.SmootherEquivalentForm := fun e avg val =>
  ⟨smooth_int e avg val, by simp [smooth]⟩

/-- Settles O26: the shorter run is part of the longer one. -/
theorem raisingStepsCausesNoFlip : Obligations.RaisingStepsCausesNoFlip := by
  intro rebase v x f short long hpos hle hmax hflip
  obtain ⟨hne, hrun⟩ := (debounceStep_flips_iff_before (by omega) hmax).mp hflip
  exact (debounceStep_flips_iff_before hpos (by omega)).mpr ⟨hne, fun k hk => hrun k (by omega)⟩

/-- Settles O27, by running the printed example. -/
theorem literalDebouncerLetsBouncePass : Obligations.LiteralDebouncerLetsBouncePass :=
  ⟨by decide, by decide⟩

/-- The low nibble of a mask as an index of the table. -/
theorem nibble_eq (m : Mask) : (m.extractLsb' 0 4).toFin = Fin.ofNat 16 m.toNat := by
  apply Fin.ext
  simp

/-- Settles O37: the nibble and the accidental read off the number of the mask, and the 16 entries of the
default table. -/
theorem grayReadsTheBits : Obligations.GrayReadsTheBits := by
  refine ⟨fun gray scale m => ?bits, by decide⟩
  have hentry : gray[(m.extractLsb' 0 4).toFin] = gray[Fin.ofNat 16 m.toNat] :=
    congrArg (fun k : Fin 16 => gray[k]) (nibble_eq m)
  rw [grayNote, hentry, accidental_eq]
  rfl

end Sys2Proof.Machine

/-! PROOF. A poll of unset bounds, and states that agree on what a command reads (42_aggregator R169, 10_state R21,
R30). -/

namespace Sys2Proof.Machine

open Sys2Proof.Config

/-! ### A poll of a channel whose bounds are reset (42_aggregator R169) -/

/-- With `MAX` at 0 there is no range: the pad reads 0, which is open at every threshold. -/
theorem poll_of_maxv_zero {c : Channel} (h : c.maxv.toNat = 0) (rebase : Bool) (steps : Nat) :
    (c.poll rebase steps).norm = 0#8 ∧
      ((c.poll rebase steps).dbv, (c.poll rebase steps).dbf) =
        debounceStep rebase c.dbv c.dbf true steps := by
  have hnorm : normalized c.avg.toNat c.minv.toNat c.maxv.toNat = 0 := normalized_of_narrow (by omega)
  refine ⟨BitVec.eq_of_toNat_eq (by rw [poll_norm_toNat, hnorm]; rfl), ?_⟩
  rw [poll_debounced, hnorm, decide_eq_true (Nat.zero_le _)]

/-- Settles O31: `CALRST` sets every `MAX` to 0, and the poll reads the channels that it leaves. -/
theorem pollAfterCalrstReadsOpen : Obligations.PollAfterCalrstReadsOpen := by
  intro s _ hnact
  obtain ⟨t, hpoll, -, hchan⟩ := exec_poll_frame (s.resetBounds.respond 0#32)
  refine ⟨_, t, exec_calrst s, hpoll, fun i hi => ?_⟩
  have hreset : (s.resetBounds.respond 0#32).chan i = (s.chan i).resetBounds (rawMax s.params) := by
    rw [respond_chan, resetBounds_chan, if_pos (by omega)]
  have hi' : i.val < (s.resetBounds.respond 0#32).nact.toNat := hi
  rw [hchan, pollChannels_chan, if_pos hi', hreset]
  exact poll_of_maxv_zero rfl _ _

/-! ### The first poll after reset (42_aggregator R169) -/

/-- From the reset history a first input 1 completes any run (41_debouncer R146). -/
theorem debounceStep_fst_of_reset (rebase : Bool) {steps : Nat} (hpos : 1 ≤ steps) (hmax : steps ≤ 31) :
    (debounceStep rebase false 0#31 true steps).1 = true :=
  Bool.eq_true_of_not_eq_false ((debounceStep_flips_iff_before hpos hmax).mpr
    ⟨by decide, fun _ _ => BitVec.getLsbD_zero⟩)

/-- When every active pad is open the mask is one bit per active channel. -/
theorem freshMask_toNat_of_open {s : State} (hnact : s.nact.toNat ≤ 16)
    (hopen : ∀ i : Fin 16, i.val < s.nact.toNat → (s.chan i).dbv = true) :
    s.freshMask.toNat = 2 ^ s.nact.toNat - 1 := by
  refine Nat.eq_of_testBit_eq fun k => ?_
  rw [BitVec.testBit_toNat, Nat.testBit_two_pow_sub_one]
  by_cases hk : k < s.nact.toNat
  · rw [freshMask_getLsbD s ⟨k, by omega⟩, hopen ⟨k, by omega⟩ hk]
    simp [State.active]
  · rw [decide_eq_false hk]
    by_cases hcell : k < 16
    · rw [freshMask_getLsbD s ⟨k, hcell⟩, State.active, decide_eq_false hk, Bool.false_and]
    · exact BitVec.getLsbD_of_ge _ _ (by omega)

/-- Bit 31 of the response says that the mask changed (30_encoding R97). -/
theorem pollResponse_getLsbD_changed (changed : Bool) (note : Note) (touch : Mask) :
    (pollResponse changed note touch).getLsbD 31 = changed := by
  simp only [pollResponse, BitVec.getLsbD_append]
  simp

section
variable {p : Params} (hp : Admissible p)
include hp

theorem launch_polled_open {i : Fin 16} (hi : i.val < p.launch.nact.toNat) :
    ((State.launch p).pollChannels.chan i).norm = 0#8 ∧
      ((State.launch p).pollChannels.chan i).dbv = true := by
  have hi' : i.val < (State.launch p).nact.toNat := hi
  rw [pollChannels_chan, if_pos hi', launch_chan]
  obtain ⟨hnorm, hdebounced⟩ := poll_of_maxv_zero
    (c := Channel.launch (rawMax p) p.launch.raw[i] p.launch.thr[i]) rfl p.dbRebase p.launch.steps.toNat
  have hmax : p.launch.steps.toNat < 32 := p.launch.steps.isLt
  exact ⟨hnorm, (congrArg Prod.fst hdebounced).trans
    (debounceStep_fst_of_reset p.dbRebase hp.launchSteps (by omega))⟩

theorem launch_freshMask :
    (State.launch p).pollChannels.freshMask.toNat = 2 ^ p.launch.nact.toNat - 1 :=
  freshMask_toNat_of_open (s := (State.launch p).pollChannels)
    (hp.launchNact.2.trans hp.nmax.2) fun _ hi => (launch_polled_open hp hi).2

/-- At least one channel is active, so the first mask is not the empty one of reset. -/
theorem launch_mask_changes : (State.launch p).pollChannels.freshMask ≠ (State.launch p).touch := by
  intro hsame
  have hzero : 2 ^ p.launch.nact.toNat - 1 = 0 := (launch_freshMask hp).symm.trans (congrArg BitVec.toNat hsame)
  have hone : 2 ^ 1 ≤ 2 ^ p.launch.nact.toNat := Nat.pow_le_pow_right two_pos hp.launchNact.1
  omega

end

/-- Settles O30: every active pad reads open, so the mask changes and is reported. -/
theorem firstPollOpensEveryPad : Obligations.FirstPollOpensEveryPad := fun _ hp =>
  ⟨_, _, exec_poll_of_changed (launch_mask_changes hp), fun _ => launch_polled_open hp,
    launch_freshMask hp, rfl, rfl, pollResponse_getLsbD_changed true _ _⟩

/-! ### Two states that differ in channels only -/

/-- Two states whose channels are related by `P`, and which agree otherwise. -/
def AgreeBut (P : Fin 16 → Channel → Channel → Prop) (s s' : State) : Prop :=
  s' = { s with chans := s'.chans } ∧ ∀ i : Fin 16, P i (s.chan i) (s'.chan i)

/-- The command completes in both states, and the next states are related as they are. -/
def CompletesAlike (P : Fin 16 → Channel → Channel → Prop) (i : Instr) (s s' : State) : Prop :=
  ∃ t t' : State, exec i s = .next t ∧ exec i s' = .next t' ∧ AgreeBut P t t'

namespace AgreeBut

section
variable {P : Fin 16 → Channel → Channel → Prop} {s s' : State} (h : AgreeBut P s s')
include h

theorem exists_chans : ∃ chans, s' = { s with chans := chans } := ⟨s'.chans, h.1⟩

theorem respond (w : Word) : AgreeBut P (s.respond w) (s'.respond w) := by
  obtain ⟨chans, rfl⟩ := h.exists_chans
  exact ⟨rfl, h.2⟩

theorem latchMask (m : Mask) : AgreeBut P (s.latchMask m) (s'.latchMask m) := by
  obtain ⟨chans, rfl⟩ := h.exists_chans
  exact ⟨rfl, h.2⟩

theorem mapChans {f : Fin 16 → Channel → Channel} (hf : ∀ i c d, P i c d → P i (f i c) (f i d)) :
    AgreeBut P (s.mapChans f) (s'.mapChans f) := by
  obtain ⟨chans, rfl⟩ := h.exists_chans
  refine ⟨rfl, fun i => ?_⟩
  rw [mapChans_chan, mapChans_chan]
  exact hf i _ _ (h.2 i)

theorem pollChannels
    (hpoll : ∀ i c d, i.val < s.nact.toNat → P i c d →
      P i (c.poll s.params.dbRebase s.steps.toNat) (d.poll s.params.dbRebase s.steps.toNat)) :
    AgreeBut P s.pollChannels s'.pollChannels := by
  obtain ⟨chans, rfl⟩ := h.exists_chans
  refine h.mapChans fun i c d hcd => ?_
  split
  next hactive => exact hpoll i c d (of_decide_eq_true hactive) hcd
  next => exact hcd

theorem freshMask_eq (hdbv : ∀ i c d, i.val < s.nact.toNat → P i c d → d.dbv = c.dbv) :
    s'.freshMask = s.freshMask := by
  obtain ⟨chans, rfl⟩ := h.exists_chans
  refine mask_ext fun i => ?_
  rw [freshMask_getLsbD, freshMask_getLsbD]
  by_cases hactive : i.val < s.nact.toNat
  · rw [hdbv i _ _ hactive (h.2 i)]
    rfl
  · simp [State.active, hactive]

/-- A poll of both states, when the poll of a channel keeps the relation and the relation keeps `DBV`. -/
theorem completesAlike_poll
    (hpoll : ∀ i c d, i.val < s.nact.toNat → P i c d →
      P i (c.poll s.params.dbRebase s.steps.toNat) (d.poll s.params.dbRebase s.steps.toNat))
    (hdbv : ∀ i c d, i.val < s.nact.toNat → P i c d → d.dbv = c.dbv) : CompletesAlike P .poll s s' := by
  have hpolled := h.pollChannels hpoll
  have hmask : s'.pollChannels.freshMask = s.pollChannels.freshMask := hpolled.freshMask_eq hdbv
  obtain ⟨chans, rfl⟩ := h.exists_chans
  by_cases hsame : s.pollChannels.freshMask = s.touch
  · exact ⟨_, _, exec_poll_of_same hsame, exec_poll_of_same (hmask.trans hsame), hpolled.respond _⟩
  · refine ⟨_, _, exec_poll_of_changed hsame, exec_poll_of_changed (hmask ▸ hsame), ?_⟩
    rw [hmask]
    exact (hpolled.latchMask _).respond _

end

end AgreeBut

/-- Settles O32: equal active channels are polled alike, and the mask reads no others. -/
theorem inactiveChannelsDoNotInfluencePoll : Obligations.InactiveChannelsDoNotInfluencePoll := by
  intro s s' h
  have hagree : AgreeBut (fun i c d => i.val < s.nact.toNat → d = c) s s' := h
  obtain ⟨t, t', hexec, hexec', heq, hchan⟩ := hagree.completesAlike_poll
    (fun i c d hi hcd _ => by rw [hcd hi]) fun i c d hi hcd => by rw [hcd hi]
  obtain ⟨u, hexecu, hframe, -⟩ := exec_poll_frame s
  obtain rfl : u = t := Host.Outcome.next.inj (hexecu.symm.trans hexec)
  have hnact : u.nact = s.nact := by rw [hframe]
  exact ⟨u, t', hexec, hexec', heq, hnact ▸ hchan⟩

/-! ### No command reads `RAW` (10_state R21) -/

section
variable {P : Fin 16 → Channel → Channel → Prop} {i : Instr} {s s' u u' : State}

theorem completesAlike_of_respond {w : Word} (h : exec i s = .next (u.respond w))
    (h' : exec i s' = .next (u'.respond w)) (hu : AgreeBut P u u') : CompletesAlike P i s s' :=
  ⟨_, _, h, h', hu.respond w⟩

/-- Two configuration writes with the same legality. -/
theorem completesAlike_of_commit {legal : Bool} (h : exec i s = .next (s.commit legal u))
    (h' : exec i s' = .next (s'.commit legal u')) (hs : AgreeBut P s s') (hu : AgreeBut P u u') :
    CompletesAlike P i s s' := by
  cases legal with
  | true => exact completesAlike_of_respond h h' hu
  | false => exact completesAlike_of_respond h h' hs

/-- Two reads of the same value with the same legality. -/
theorem completesAlike_of_answer {legal : Bool} {value : Word} (h : exec i s = .next (s.answer legal value))
    (h' : exec i s' = .next (s'.answer legal value)) (hs : AgreeBut P s s') : CompletesAlike P i s s' := by
  rw [answer_eq] at h h'
  exact completesAlike_of_respond h h' hs

end

section
variable {c d : Channel} (h : SameButRaw c d)
include h

theorem sameButRaw_resetBounds (m : Nat) : SameButRaw (c.resetBounds m) (d.resetBounds m) := by
  rw [h]; rfl

theorem sameButRaw_fold (m e : Nat) (r : Word) : SameButRaw (c.fold m e r) (d.fold m e r) := by
  rw [h]; rfl

theorem sameButRaw_poll (rebase : Bool) (steps : Nat) :
    SameButRaw (c.poll rebase steps) (d.poll rebase steps) := by
  rw [h]; rfl

theorem sameButRaw_setThr (imm : BitVec 8) : SameButRaw { c with thr := imm } { d with thr := imm } := by
  rw [h]

end

namespace AgreeButRaw

section
variable {s s' : State} (h : AgreeButRaw s s')
include h

theorem resetBounds : AgreeButRaw s.resetBounds s'.resetBounds := by
  obtain ⟨chans, rfl⟩ := AgreeBut.exists_chans h
  refine AgreeBut.mapChans h fun i c d hcd => ?_
  split
  · exact sameButRaw_resetBounds hcd _
  · exact hcd

theorem countSample : AgreeButRaw s.countSample s'.countSample := by
  obtain ⟨chans, rfl⟩ := AgreeBut.exists_chans h
  have hcounted : AgreeButRaw { s with cnt := s.cnt + 1#8 } { s with cnt := s.cnt + 1#8, chans := chans } :=
    ⟨rfl, h.2⟩
  unfold State.countSample
  dsimp only
  split
  · exact hcounted.resetBounds
  · exact hcounted

theorem foldFrame (frame : List Word) : AgreeButRaw (s.foldFrame frame) (s'.foldFrame frame) := by
  obtain ⟨chans, rfl⟩ := AgreeBut.exists_chans h
  refine AgreeBut.mapChans h fun i c d hcd => ?_
  split
  · exact sameButRaw_fold hcd _ _ _
  · exact hcd

theorem chan_eq (k : Fin 16) : s'.chan k = { s.chan k with raw := (s'.chan k).raw } := h.2 k

/-- Every command that completes in one of two states that agree but for `RAW` completes alike in the other. -/
theorem completesAlike {i : Instr} {t : State} (hexec : exec i s = .next t) :
    CompletesAlike (fun _ => SameButRaw) i s s' := by
  have hagree : AgreeBut (fun _ => SameButRaw) s s' := h
  have hparams : s'.params = s.params := by rw [h.1]
  cases i with
  | sample frame =>
    by_cases hlen : frame.length = s.nact.toNat
    · have hlen' : frame.length = s'.nact.toNat := by rw [h.1]; exact hlen
      exact completesAlike_of_respond (exec_sample hlen) (exec_sample hlen') (h.countSample.foldFrame frame)
    · rw [exec, execSample, if_neg hlen] at hexec
      cases hexec
  | calrst => exact completesAlike_of_respond rfl rfl h.resetBounds
  | poll =>
    exact hagree.completesAlike_poll (fun _ _ _ _ hcd => sameButRaw_poll hcd _ _)
      fun _ _ _ _ hcd => by rw [hcd]
  | setn | setsteps | setexp | setroot | setpolicy =>
    obtain ⟨chans, rfl⟩ := hagree.exists_chans
    exact completesAlike_of_commit rfl rfl hagree ⟨rfl, h.2⟩
  | setthr | setthrall =>
    obtain ⟨chans, rfl⟩ := hagree.exists_chans
    refine completesAlike_of_commit rfl rfl hagree (hagree.mapChans fun i c d hcd => ?_)
    split
    · exact sameButRaw_setThr hcd _
    · exact hcd
  | setmode imm =>
    obtain ⟨chans, rfl⟩ := hagree.exists_chans
    cases hm : modeOfNumber imm.toNat with
    | none =>
      exact completesAlike_of_commit (legal := false) (by simp only [exec, execSetmode, hm])
        (by simp only [exec, execSetmode, hm]) hagree hagree
    | some m =>
      exact ⟨_, _, exec_setmode_of_legal hm s, exec_setmode_of_legal hm _, rfl, h.2⟩
  | getavg ch => exact completesAlike_of_answer rfl (by rw [exec, execGetavg, h.chan_eq, hparams]) hagree
  | getmin ch => exact completesAlike_of_answer rfl (by rw [exec, execGetmin, h.chan_eq, hparams]) hagree
  | getmax ch => exact completesAlike_of_answer rfl (by rw [exec, execGetmax, h.chan_eq, hparams]) hagree
  | getnorm ch => exact completesAlike_of_answer rfl (by rw [exec, execGetnorm, h.chan_eq, hparams]) hagree
  | gettouch | getnote =>
    obtain ⟨chans, rfl⟩ := hagree.exists_chans
    exact completesAlike_of_answer rfl rfl hagree

end

end AgreeButRaw

/-- Settles O49: the command that completes in the one state completes alike in both. -/
theorem rawIsUnobservable : Obligations.RawIsUnobservable := by
  intro i s s' t h hexec
  obtain ⟨u, t', hu, hexec', hagree⟩ := AgreeButRaw.completesAlike h hexec
  obtain rfl : u = t := Host.Outcome.next.inj (hu.symm.trans hexec)
  exact ⟨t', hexec', hagree⟩

end Sys2Proof.Machine

/-! PROOF. Which agent is served, and the steps that serve none (20_memory R66, 60_exceptions R255, 10_state R45). -/

namespace Sys2Proof.Machine

/-! ### Ready agents -/

section
variable {s : State} {a : Agent} {rest : List Word}

theorem ready_of_instr {i : Instr} (h : s.decoded a = .instr i rest) : s.ready a = true := by
  simp [State.ready, h]

theorem ready_of_illegal {why : IllegalWord} (h : s.decoded a = .illegal why rest) : s.ready a = true := by
  simp [State.ready, h]

theorem not_ready_of_no_words (h : s.words a = []) : s.ready a = false := by
  simp [State.ready, State.decoded, decode, h]

/-- The agent that alone is ready is served. -/
theorem selected_of_only_ready (h : s.ready a = true) (hother : ∀ b, b ≠ a → s.ready b = false) :
    s.selected = some a := by
  cases a with
  | producer => simp [State.selected, h, hother .consumer nofun]
  | consumer => simp [State.selected, h, hother .producer nofun]

/-- When both agents are ready one of them is served. -/
theorem selected_of_both_ready (hp : s.ready .producer = true) (hc : s.ready .consumer = true) :
    ∃ a, s.selected = some a :=
  ⟨s.preferred, by simp [State.selected, hp, hc]⟩

theorem selected_of_none_ready (hp : s.ready .producer = false) (hc : s.ready .consumer = false) :
    s.selected = none := by
  simp [State.selected, hp, hc]

/-- With no agent ready the machine idles when nothing is presented, and else has no meaning (log 8). -/
theorem step_of_none_ready (hpin : s.resetPin = false) (hp : s.ready .producer = false)
    (hc : s.ready .consumer = false) :
    step s = if s.producer = [] ∧ s.consumer = [] then .next s else .refused .brokenFrame := by
  have hsel := selected_of_none_ready hp hc
  by_cases hempty : s.producer = [] ∧ s.consumer = []
  · simp [step, State.fetch, hpin, hsel, hempty]
  · have hempty' : (s.producer.isEmpty && s.consumer.isEmpty) = false := by
      simpa using hempty
    simp [step, State.fetch, hpin, hsel, hempty, hempty']

/-- The machine idles only when nothing is presented. -/
theorem no_words_of_idle (hpin : s.resetPin = false) (h : s.fetch = .idle) :
    s.producer = [] ∧ s.consumer = [] := by
  unfold State.fetch at h
  cases hsel : s.selected with
  | none =>
    rw [hsel] at h
    dsimp only at h
    split at h
    next hempty => simpa using hempty
    next => cases h
  | some a =>
    obtain ⟨i, rest, -, -, hdec⟩ | ⟨why, rest, -, -, hdec⟩ := serves_of_selected hpin hsel
    · simp [hsel, hdec] at h
    · simp [hsel, hdec] at h

end

/-- Settles O15: a frame of a wrong length by its meaning, and words of which no agent is ready by the step. -/
theorem brokenFrameIsRefused : Obligations.BrokenFrameIsRefused := by
  refine ⟨fun s frame hlen => if_neg hlen, fun s hpin hp hc hwords => ?_⟩
  rw [step_of_none_ready hpin hp hc, if_neg]
  rintro ⟨hproducer, hconsumer⟩
  exact hwords (by rw [hproducer, hconsumer]; rfl)

/-- Settles O51, by which agents are ready. -/
theorem readyAgentsAreServed : Obligations.ReadyAgentsAreServed := by
  refine fun s => ⟨fun a => selected_of_only_ready, fun i j rest rest' hpin hp hc => ?both,
    fun hpin hp hc => ?none⟩
  case both =>
    obtain ⟨a, hsel⟩ := selected_of_both_ready (ready_of_instr hp) (ready_of_instr hc)
    cases a with
    | producer => exact .inl (step_of_serves_instr ⟨hpin, hsel, hp⟩)
    | consumer => exact .inr (step_of_serves_instr ⟨hpin, hsel, hc⟩)
  case none =>
    rw [step_of_none_ready hpin (not_ready_of_no_words hp) (not_ready_of_no_words hc), if_pos ⟨hp, hc⟩]

/-! ### The step relation over all schedules (20_memory R66; log 5) -/

section
variable {s t : State}

/-- A schedule that names a ready agent first serves it. -/
theorem serves_of_ready {a : Agent} {d : Decoded} (hpin : s.resetPin = false) (hready : s.ready a = true)
    (hdec : s.decoded a = d) : Serves (s.reschedule [a]) a d :=
  ⟨hpin, selected_of_ready hready, by rw [reschedule_decoded]; exact hdec⟩

/-- The step of the schedule that the state holds. -/
theorem canStep_of_step (h : step s = .next t) : CanStep s t := ⟨s.schedule, h⟩

/-- Every next state of a released machine is that of idling with nothing presented, or of one agent's next
command or illegal word. -/
theorem canStep_cases (hpin : s.resetPin = false) (h : CanStep s t) :
    (s.producer = [] ∧ s.consumer = [] ∧ t = s.reschedule t.schedule) ∨
      ∃ (a : Agent) (l : List Agent),
        (∃ i rest, s.decoded a = .instr i rest ∧ exec i ((s.reschedule l).take a rest) = .next t) ∨
        (∃ why rest, s.decoded a = .illegal why rest ∧ t = ((s.reschedule l).take a rest).ignore) := by
  obtain ⟨l, hstep⟩ := h
  obtain ⟨hreset, -⟩ | ⟨-, hidle, rfl⟩ | ⟨a, i, rest, -, -, ⟨-, -, hdec⟩, hexec, -⟩ |
    ⟨a, why, rest, ⟨-, -, hdec⟩, rfl⟩ := step_served hstep
  · rw [reschedule_resetPin, hpin] at hreset
    cases hreset
  · obtain ⟨hproducer, hconsumer⟩ :=
      no_words_of_idle (s := s.reschedule l) hpin hidle
    exact .inl ⟨hproducer, hconsumer, rfl⟩
  · rw [reschedule_decoded] at hdec
    exact .inr ⟨a, l, .inl ⟨i, rest, hdec, hexec⟩⟩
  · rw [reschedule_decoded] at hdec
    exact .inr ⟨a, l, .inr ⟨why, rest, hdec, rfl⟩⟩

end

/-- Settles O52: a schedule serves any ready agent, and no schedule does anything else. -/
theorem eitherAgentMayBeServed : Obligations.EitherAgentMayBeServed := fun _ _ hpin =>
  ⟨fun a _ _ hdec => ⟨[a], step_of_serves_instr (serves_of_ready hpin (ready_of_instr hdec) hdec)⟩,
    fun a _ _ hdec => ⟨[a], step_of_serves_illegal (serves_of_ready hpin (ready_of_illegal hdec) hdec)⟩,
    canStep_cases hpin, canStep_of_step, fun _ => ⟨rfl, rfl, rfl, rfl, rfl⟩⟩

end Sys2Proof.Machine

/-! PROOF. `CALRST` and the configuration writes repeated (20_memory R72). -/

namespace Sys2Proof.Machine

/-- The command completes twice in a row, and the second time changes no register. -/
def CompletesTwice (i : Instr) (s : State) : Prop :=
  ∃ u t : State, exec i s = .next u ∧ exec i u = .next t ∧ SameRegisters u t

/-- A guarded write whose legality reads the parameters only repeats when the write does. -/
theorem completesTwice_of_commit {i : Instr} {s : State} {legal : Config.Params → Bool} {write : State → State}
    (hexec : ∀ u, exec i u = .next (u.commit (legal u.params) (write u)))
    (hparams : (write s).params = s.params)
    (htwice : SameRegisters ((write s).respond 0#32) (write ((write s).respond 0#32))) :
    CompletesTwice i s := by
  cases hlegal : legal s.params with
  | true =>
    have hwrites : ∀ u : State, u.params = s.params → exec i u = .next ((write u).respond 0#32) :=
      fun u hu => by rw [hexec, hu, commit_of_legal hlegal]
    refine ⟨_, _, hwrites s rfl, hwrites _ hparams, ?_⟩
    rw [htwice]
    rfl
  | false =>
    have hignores : ∀ u : State, u.params = s.params → exec i u = .next (u.respond 0#32) :=
      fun u hu => by rw [hexec, hu, commit_of_illegal hlegal]
    exact ⟨_, _, hignores s rfl, hignores _ rfl, rfl⟩

/-- A write of the channels that leaves each as it is. -/
theorem mapChans_eq_self {f : Fin 16 → Channel → Channel} {s : State} (h : ∀ i, f i (s.chan i) = s.chan i) :
    s.mapChans f = s := by
  have hchans : (s.mapChans f).chans = s.chans := chan_ext fun i => by
    change (s.mapChans f).chan i = s.chan i
    rw [mapChans_chan, h]
  calc s.mapChans f
    _ = { s with chans := (s.mapChans f).chans } := rfl
    _ = s := by rw [hchans]

/-- A write of the channels that repeats on each channel repeats on the state. -/
theorem sameRegisters_mapChans_twice {f : Fin 16 → Channel → Channel} (hf : ∀ i c, f i (f i c) = f i c)
    (s : State) (w : Word) :
    SameRegisters ((s.mapChans f).respond w) (((s.mapChans f).respond w).mapChans f) := by
  have hself : ((s.mapChans f).respond w).mapChans f = (s.mapChans f).respond w :=
    mapChans_eq_self fun i => by rw [respond_chan, mapChans_chan, hf]
  rw [hself]

/-- A mode is legal or not whatever the state. -/
theorem completesTwice_setmode (imm : BitVec 8) (s : State) : CompletesTwice (.setmode imm) s := by
  cases hm : modeOfNumber imm.toNat with
  | none =>
    exact completesTwice_of_commit (legal := fun _ => false) (write := id)
      (fun _ => by simp only [exec, execSetmode, hm, id]) rfl rfl
  | some m => exact ⟨_, _, exec_setmode_of_legal hm s, exec_setmode_of_legal hm _, rfl⟩

/-- Settles O9: the writes do not read what they write. -/
theorem writesAreIdempotent : Obligations.WritesAreIdempotent := by
  intro s i hi
  cases i with
  | sample | poll | getavg | getmin | getmax | getnorm | gettouch | getnote => exact hi.elim
  | calrst => exact ⟨_, _, exec_calrst s, exec_calrst_twice s, rfl⟩
  | setn imm =>
    exact completesTwice_of_commit (legal := fun p => legalCount p imm)
      (write := fun u => { u with nact := imm.setWidth 5 }) (fun _ => rfl) rfl rfl
  | setthr ch imm =>
    refine completesTwice_of_commit (legal := fun p => legalChannel p ch)
      (write := fun u => u.mapChans fun i c => if i = channelIndex ch then { c with thr := imm } else c)
      (fun _ => rfl) rfl (sameRegisters_mapChans_twice (fun i c => ?_) s _)
    split <;> rfl
  | setthrall imm =>
    refine completesTwice_of_commit (legal := fun _ => true)
      (write := fun u => u.mapChans fun i c => if u.implemented i then { c with thr := imm } else c)
      (fun _ => rfl) rfl (sameRegisters_mapChans_twice (fun i c => ?_) s _)
    split <;> rfl
  | setsteps imm =>
    exact completesTwice_of_commit (legal := fun _ => legalSteps imm)
      (write := fun u => { u with steps := imm.setWidth 5 }) (fun _ => rfl) rfl rfl
  | setexp imm =>
    exact completesTwice_of_commit (legal := fun _ => legalExp imm)
      (write := fun u => { u with exp := imm.setWidth 4 }) (fun _ => rfl) rfl rfl
  | setroot imm =>
    exact completesTwice_of_commit (legal := fun _ => legalRoot imm)
      (write := fun u => { u with root := imm.setWidth 7, scale := scaleOf u.params (imm.setWidth 7) u.mode })
      (fun _ => rfl) rfl rfl
  | setmode imm => exact completesTwice_setmode imm s
  | setpolicy imm =>
    exact completesTwice_of_commit (legal := fun _ => legalPolicy imm)
      (write := fun u => { u with policy := policyOfOperand imm, sfdeleg := delegateOfOperand imm })
      (fun _ => rfl) rfl rfl

end Sys2Proof.Machine
